-- ==== Sys2Proof/Word.lean ====
section
/-! DEFINITION. The plain data of aes_core: bytes, words, window offsets (R7, R8, R36) and the 4 by 4 byte matrix the
spec calls State (R14, R17, R150). The byte order inside a word is in Machine/Bytes.lean. -/

namespace Sys2Proof

/-- "an 8-bit unsigned value" (R7, R17); as a field element, bit k is the coefficient of x^k (R11). -/
abbrev Byte := BitVec 8

/-- "Word: 4 bytes" (R7); also the width of every register of the window (R20). -/
abbrev Word := BitVec 32

/-- The byte address [11:0] of the slave bus port (R36, R50). -/
abbrev Offset := BitVec 12

/-- One column of the State: the bytes S[0][c], S[1][c], S[2][c], S[3][c] (R14). -/
structure StateColumn where
  r0 : Byte
  r1 : Byte
  r2 : Byte
  r3 : Byte
  deriving DecidableEq, Repr, Inhabited

/-- The State, "a 4×4 byte matrix (16 bytes)" (R150), held column by column. -/
structure StateMatrix where
  c0 : StateColumn
  c1 : StateColumn
  c2 : StateColumn
  c3 : StateColumn
  deriving DecidableEq, Repr, Inhabited

end Sys2Proof
end

