-- ==== Sys2Proof/Syntax.lean ====
section
/-! DEFINITION. The commands of aes_core, one constructor per row of the opcode table (R72), and the pseudo-commands of
R80. Lengths are natural numbers (R77: "taken as the natural numbers 0..63"); WellFormed.lean bounds them. -/

namespace Sys2Proof

/-- A command (R72). ILLEGAL is no command: it is a word that decodes to none of these (R73, R197). -/
inductive Instr where
  /-- R195 -/
  | nop
  /-- R140; `klen` is the key length in bytes -/
  | expkey (klen : Nat)
  /-- R170; `blen` is the block length in bytes -/
  | enc (blen : Nat)
  /-- R171 -/
  | enck (klen blen : Nat)
  /-- R172 -/
  | dec (blen : Nat)
  /-- R173 -/
  | deck (klen blen : Nat)
  /-- R100 -/
  | gfmul
  /-- R101 -/
  | gfexp
  /-- R120 -/
  | sbox
  /-- R121 -/
  | isbox
  /-- R196 -/
  | zeroize
  deriving DecidableEq, Repr

namespace Instr

/-- R80: `ENC` without an operand. -/
def encPseudo : Instr := .enc 16

/-- R80: `DEC` without an operand. -/
def decPseudo : Instr := .dec 16

/-- R80: `ENCK klen`. -/
def enckPseudo (klen : Nat) : Instr := .enck klen 16

/-- R80: `DECK klen`. -/
def deckPseudo (klen : Nat) : Instr := .deck klen 16

/-- R80 -/
def expkey128 : Instr := .expkey 16

/-- R80 -/
def expkey192 : Instr := .expkey 24

/-- R80 -/
def expkey256 : Instr := .expkey 32

/-- R80 -/
def enck128 : Instr := .enck 16 16

/-- R80 -/
def enck192 : Instr := .enck 24 16

/-- R80 -/
def enck256 : Instr := .enck 32 16

/-- R80 -/
def deck128 : Instr := .deck 16 16

/-- R80 -/
def deck192 : Instr := .deck 24 16

/-- R80 -/
def deck256 : Instr := .deck 32 16

end Instr

end Sys2Proof
end

