-- ==== Sys2Proof/WellFormed.lean ====
section
/-! DEFINITION. Which commands can be encoded: KLEN and BLEN are 6-bit fields (R70, R77), and "Lengths of 64 bytes or
more cannot be encoded" (R75). A length that is no key or block length is well-formed: it is an error at completion,
not an encoding fault (R75). -/

namespace Sys2Proof

/-- A length that fits its 6-bit field (R70, R77). -/
def lengthFits (n : Nat) : Bool := decide (n < 64)

/-- The command can be written as a command word (R72, R75, R77). -/
def Instr.wellFormed : Instr → Bool
  | .nop => true
  | .expkey klen => lengthFits klen
  | .enc blen => lengthFits blen
  | .enck klen blen => lengthFits klen && lengthFits blen
  | .dec blen => lengthFits blen
  | .deck klen blen => lengthFits klen && lengthFits blen
  | .gfmul => true
  | .gfexp => true
  | .sbox => true
  | .isbox => true
  | .zeroize => true

end Sys2Proof
end

