-- ==== Sys2Proof/Decode.lean ====
section
/-! DEFINITION. Command words to commands and back: the fields of R70 and R71, the rows of R72, decode (R73), encode and the
spellings of R79. -/

namespace Sys2Proof

/-- OP = c[3:0] (R71). -/
def opField (c : Word) : BitVec 4 := c.extractLsb' 0 4

/-- K = c[7] (R71). -/
def kField (c : Word) : Bool := c.getLsbD 7

/-- KLEN = c[13:8], "a byte count" (R71, R77). -/
def klenField (c : Word) : Nat := (c.extractLsb' 8 6).toNat

/-- BLEN = c[21:16], "a byte count" (R71, R77). -/
def blenField (c : Word) : Nat := (c.extractLsb' 16 6).toNat

/-- RSV = c[31:22] ++ c[15:14] ++ c[6:4] (R71). -/
def rsvField (c : Word) : BitVec 15 := c.extractLsb' 22 10 ++ c.extractLsb' 14 2 ++ c.extractLsb' 4 3

/-- One row of the table of R72: a word matches it when `c &&& mask = pattern`, and then stands for `command c`. -/
structure Row where
  pattern : Word
  mask : Word
  command : Word → Instr

/-- R72, row by row: match, mask and the command with its length fields. -/
def rows : List Row :=
  [ ⟨0x00000000#32, 0xFFFFFFFF#32, fun _ => .nop⟩,
    ⟨0x00000001#32, 0xFFFFC0FF#32, fun c => .expkey (klenField c)⟩,
    ⟨0x00000002#32, 0xFFC0FFFF#32, fun c => .enc (blenField c)⟩,
    ⟨0x00000082#32, 0xFFC0C0FF#32, fun c => .enck (klenField c) (blenField c)⟩,
    ⟨0x00000003#32, 0xFFC0FFFF#32, fun c => .dec (blenField c)⟩,
    ⟨0x00000083#32, 0xFFC0C0FF#32, fun c => .deck (klenField c) (blenField c)⟩,
    ⟨0x00000004#32, 0xFFFFFFFF#32, fun _ => .gfmul⟩,
    ⟨0x00000005#32, 0xFFFFFFFF#32, fun _ => .gfexp⟩,
    ⟨0x00000006#32, 0xFFFFFFFF#32, fun _ => .sbox⟩,
    ⟨0x00000007#32, 0xFFFFFFFF#32, fun _ => .isbox⟩,
    ⟨0x00000008#32, 0xFFFFFFFF#32, fun _ => .zeroize⟩ ]

/-- "A word matches a row when `(c & mask) = match`" (R72). -/
def Row.matches (r : Row) (c : Word) : Bool := c &&& r.mask == r.pattern

/-- R73: the command of the first row that matches; `none` is ILLEGAL. Total on all 2^32 words. -/
def decode (c : Word) : Option Instr := (rows.find? (fun r => r.matches c)).map (fun r => r.command c)

/-- klen << 8 (R79). -/
def klenBits (klen : Nat) : Word := BitVec.ofNat 32 klen <<< 8

/-- blen << 16 (R79). -/
def blenBits (blen : Nat) : Word := BitVec.ofNat 32 blen <<< 16

/-- R79: the word of a well-formed command. -/
def encode : Instr → Word
  | .nop => 0x00000000#32
  | .expkey klen => 0x00000001#32 ||| klenBits klen
  | .enc blen => 0x00000002#32 ||| blenBits blen
  | .enck klen blen => 0x00000082#32 ||| klenBits klen ||| blenBits blen
  | .dec blen => 0x00000003#32 ||| blenBits blen
  | .deck klen blen => 0x00000083#32 ||| klenBits klen ||| blenBits blen
  | .gfmul => 0x00000004#32
  | .gfexp => 0x00000005#32
  | .sbox => 0x00000006#32
  | .isbox => 0x00000007#32
  | .zeroize => 0x00000008#32

/-- The command of a table word of `nbits` bits, the bits above them 0. A command is one 32-bit word (R76). -/
def decodeTableWord (nbits w : Nat) : Option Instr := decode (BitVec.ofNat 32 (w % 2 ^ nbits))

/-- R79: the spelling of a command, lengths in decimal. -/
def Instr.print : Instr → String
  | .nop => "NOP"
  | .expkey klen => "EXPKEY " ++ toString klen
  | .enc blen => "ENC " ++ toString blen
  | .enck klen blen => "ENCK " ++ toString klen ++ ", " ++ toString blen
  | .dec blen => "DEC " ++ toString blen
  | .deck klen blen => "DECK " ++ toString klen ++ ", " ++ toString blen
  | .gfmul => "GFMUL"
  | .gfexp => "GFEXP"
  | .sbox => "SBOX"
  | .isbox => "ISBOX"
  | .zeroize => "ZEROIZE"

/-- The hexadecimal digit of a 4-bit value, upper case as R79 writes it. -/
def hexDigit (d : BitVec 4) : Char := ("0123456789ABCDEF".toList).getD d.toNat '?'

/-- The eight hexadecimal digits of a word, the most significant first. -/
def hexDigits (c : Word) : String :=
  String.ofList ([28, 24, 20, 16, 12, 8, 4, 0].map (fun k => hexDigit (c.extractLsb' k 4)))

/-- R79: "A printed ILLEGAL word is written `.word 0xXXXXXXXX`". -/
def printWord (c : Word) : String :=
  match decode c with
  | some i => i.print
  | none => ".word 0x" ++ hexDigits c

end Sys2Proof
end

