-- ==== Sys2Proof/Machine/State.lean ====
section
/-! DEFINITION. Everything the spec gives the machine, as plain data (R20 to R37), and the machine right after reset (R37).
BUSY is not stored: it is PEND ≠ none (R34). The reserved bits of STATUS, OPA, OPB and RES are not stored: they read as 0
(R20, R23, R29, R30). -/

namespace Sys2Proof.Machine

/-- The legal values of STATUS.ERR (R23, R210); "ERR values 5..15 never occur". -/
inductive ErrCode where
  /-- 0, success -/
  | success
  /-- 1, KLEN ∉ 16, 24, 32: raised by EXPKEY, ENCK and DECK -/
  | invalidKeyLength
  /-- 2, BLEN ≠ 16: raised by ENC, ENCK, DEC and DECK -/
  | invalidBlockLength
  /-- 3, the word matches no row of R72: raised by the completion of an ILLEGAL word -/
  | illegalCommand
  /-- 4, KS_VALID = 0: raised by ENC and DEC -/
  | noSchedule
  deriving DecidableEq, Repr

/-- The bus access widths that R52 does not admit. -/
inductive NarrowWidth where
  | bits8
  | bits16
  deriving DecidableEq, Repr

/-- One turn of the interleaving of host steps, completion steps and reset (R59, R199, R217). Log 1. -/
inductive Turn where
  /-- the host reads the register at an offset (R15) -/
  | busRead (a : Offset)
  /-- the host writes the register at an offset (R15) -/
  | busWrite (a : Offset) (v : Word)
  /-- an access narrower than 32 bits, "not an action of the host in the model" (R52): the step refuses it -/
  | narrowAccess (a : Offset) (width : NarrowWidth)
  /-- the core's turn: the completion step, where one is enabled (R191) -/
  | coreStep
  /-- the reset pin is driven to a level: true is asserted (R36, R240). A low pin driven low is no event of R240: log 22. -/
  | rst (level : Bool)
  deriving DecidableEq, Repr

/-- The reasons a step stops with a fault. There are none: "aes_core never raises a fault: errors are codes"
(93_implementation_defined.md, R210, R211). Log 19. -/
inductive Fault
  deriving DecidableEq, Repr

/-- The reasons a step is refused. -/
inductive Refusal where
  /-- An instruction without a meaning. Raised by nobody: every arm of exec has its meaning. Safe. -/
  | notModelled (mnemonic : String)
  /-- A bus access narrower than 32 bits, which R52 says the model refuses. Raised by the turn `narrowAccess`. Safe. Log 8. -/
  | narrowAccess
  deriving DecidableEq, Repr

/-- The machine. -/
structure State where
  /-- KEY0..KEY7 (R25) -/
  key : Vector Word 8
  /-- DIN0..DIN3 (R26) -/
  din : Vector Word 4
  /-- DOUT0..DOUT3 (R28) -/
  dout : Vector Word 4
  /-- OPA[7:0] (R29) -/
  opa : Byte
  /-- OPB[7:0] (R29) -/
  opb : Byte
  /-- RES[7:0] (R30) -/
  res : Byte
  /-- the schedule store RK0..RK59 (R31) -/
  rk : Vector Word 60
  /-- STATUS.DONE (R23), which drives irq (R36) -/
  done : Bool
  /-- STATUS.OVR (R23) -/
  ovr : Bool
  /-- STATUS.KS_VALID (R23) -/
  ksValid : Bool
  /-- STATUS.ERR (R23, R210) -/
  err : ErrCode
  /-- STATUS.NK (R23) -/
  nk : BitVec 4
  /-- STATUS.NR (R23) -/
  nr : BitVec 4
  /-- PEND: the command word that was issued and has not completed (R21, R34) -/
  pend : Option Word
  /-- the hidden State S (R34) -/
  sMat : StateMatrix
  /-- the level of the reset pin, true while asserted (R36, R240) -/
  rst : Bool
  /-- the read data port: the value the latest bus read returned (R36, R54). Log 6. -/
  readData : Word
  /-- the model's own: the turns still to come, the next one first (R59, R217). Log 1. -/
  turns : List Turn
  /-- the model's own: which free value of S comes next (U21). Log 5. -/
  freeCount : Nat
  deriving DecidableEq, Repr

/-- What a step answers. -/
abbrev Result := Host.Outcome State Fault Refusal

/-- S with every byte zero (R34, R37). -/
def zeroStateMatrix : StateMatrix := ⟨⟨0, 0, 0, 0⟩, ⟨0, 0, 0, 0⟩, ⟨0, 0, 0, 0⟩, ⟨0, 0, 0, 0⟩⟩

/-- "The complete reset state" (R37); the pin is released, nothing has been read and no turn is to come (log 1, 5, 6, 7). -/
def State.reset : State where
  key := Vector.replicate 8 0
  din := Vector.replicate 4 0
  dout := Vector.replicate 4 0
  opa := 0
  opb := 0
  res := 0
  rk := Vector.replicate 60 0
  done := false
  ovr := false
  ksValid := false
  err := .success
  nk := 0
  nr := 0
  pend := none
  sMat := zeroStateMatrix
  rst := false
  readData := 0
  turns := []
  freeCount := 0

end Sys2Proof.Machine
end

