-- ==== Sys2Proof/Machine/Flags.lean ====
section
/-! DEFINITION. STATUS: its fields, its word and what writes its flags (R23, R24, R35, R36, R190, R191). -/

namespace Sys2Proof.Machine

/-- "1 while PEND = some(cmd)" (R23, R34). -/
def State.busy (s : State) : Bool := s.pend.isSome

/-- irq, "a level output equal to STATUS.DONE at all times" (R36, R216). -/
def State.irq (s : State) : Bool := s.done

/-- The ERR code of an error (R210). -/
def errBits : ErrCode → BitVec 4
  | .success => 0
  | .invalidKeyLength => 1
  | .invalidBlockLength => 2
  | .illegalCommand => 3
  | .noSchedule => 4

/-- The STATUS word (R23): 0 in [31:16], NR, NK, ERR, KS_VALID, OVR, DONE, BUSY. -/
def State.statusWord (s : State) : Word :=
  0#16 ++ s.nr ++ s.nk ++ errBits s.err ++ BitVec.ofBool s.ksValid ++ BitVec.ofBool s.ovr ++ BitVec.ofBool s.done ++
    BitVec.ofBool s.busy

/-- A write of v to STATUS while idle (R24): DONE and OVR are cleared where v has a 1; "All other bits of v are ignored". -/
def State.clearFlags (s : State) (v : Word) : State :=
  { s with
    done := if v.getLsbD 1 then false else s.done
    ovr := if v.getLsbD 2 then false else s.ovr }

/-- A write dropped while busy (R193): "R[STATUS].OVR <- 1 -- nothing else changes". -/
def State.dropWrite (s : State) : State := { s with ovr := true }

end Sys2Proof.Machine
end

