-- ==== Sys2Proof/Config.lean ====
section
/-! DEFINITION. What the spec leaves open (R9, 92_eei_decisions.md "Open parameters", 93_implementation_defined.md). Every
constant here has no body: no proof can see its value. Log 5, 11, 12 and 13. -/

namespace Sys2Proof.Config

/-- AES_BASE, "the platform base address of the register window" (R9, R57; U11). -/
opaque aesBase : Nat

/-- LATENCY(op, Nr) less one: R9 says the latency "is at least 1" (R260, R261; U12). No step of the untimed model reads it. -/
opaque latencyBeyondOne : Instr → Nat → Nat

/-- LATENCY(op, Nr), in cycles (R260). No step reads it (R198): "The untimed model does not count cycles". -/
def latency (op : Instr) (nr : Nat) : Nat := latencyBeyondOne op nr + 1

/-- The two reset styles (R9, R240). -/
inductive ResetStyle where
  | synchronous
  | asynchronous
  deriving DecidableEq, Repr, Inhabited

/-- RESET_STYLE (R9; U13): "No rule of the model can see it". -/
opaque resetStyle : ResetStyle

/-- The two realizations of the S-boxes (R9, R119). -/
inductive SBoxImpl where
  | rom
  | arithmetic
  deriving DecidableEq, Repr, Inhabited

/-- SBOX_IMPL (R9; U14): "No rule of the model can see it". -/
opaque sboxImpl : SBoxImpl

/-- A free value: the hidden S that a successful cipher command leaves behind. U21: "any value. No rule reads S outside a
command." DESIGN CHOICE, safe; log 5. -/
opaque freeStateMatrix : Nat → StateMatrix

/-- A free value: Rcon[0] and Rcon[j] for j > 10, which "are never read and are not defined" (R132). DESIGN CHOICE, safe;
log 11. -/
opaque rconUndefined : Nat → Word

/-- A free value: a schedule word past RK59, which no rule reads in any state a run reaches (R137: "The largest word index is
59"). DESIGN CHOICE, safe; log 12. -/
opaque roundKeyPastEnd : Nat → Word

end Sys2Proof.Config
end

