-- ==== Sys2Proof/Machine/Bytes.lean ====
section
/-! DEFINITION. Bytes inside words (R13, R51), the State by row and column (R14), and the bit rotation of R110. -/

namespace Sys2Proof.Machine

/-- byte(w, m) = w[31-8m : 24-8m] for m in 0..3: "byte 0 is the most significant, leftmost byte" (R13). -/
def byteOf (w : Word) (m : Fin 4) : Byte := w.extractLsb' (24 - 8 * m.val) 8

/-- word(b0, b1, b2, b3) = b0 ++ b1 ++ b2 ++ b3 (R13). -/
def wordOf (b0 b1 b2 b3 : Byte) : Word := b0 ++ b1 ++ b2 ++ b3

/-- Byte k of a 16-byte block packed in four registers: byte(R[k div 4], k mod 4) (R26, R28). -/
def blockByte (b : Vector Word 4) (k : Fin 16) : Byte :=
  byteOf (b[k.val / 4]'(by omega)) ⟨k.val % 4, by omega⟩

/-- rotl8(b, k) = ((b << k) | (b >> (8 - k)))[7:0] (R110). -/
def rotl8 (b : Byte) (k : Nat) : Byte := (b <<< k) ||| (b >>> (8 - k))

/-- Row r of a column. -/
def columnGet (a : StateColumn) (r : Fin 4) : Byte :=
  match r with
  | 0 => a.r0
  | 1 => a.r1
  | 2 => a.r2
  | 3 => a.r3

/-- Column c of the State. -/
def matrixColumn (m : StateMatrix) (c : Fin 4) : StateColumn :=
  match c with
  | 0 => m.c0
  | 1 => m.c1
  | 2 => m.c2
  | 3 => m.c3

/-- S[r][c] (R14). -/
def matrixGet (m : StateMatrix) (r c : Fin 4) : Byte := columnGet (matrixColumn m c) r

/-- The State whose byte at row r and column c is `f r c`. -/
def matrixOf (f : Fin 4 → Fin 4 → Byte) : StateMatrix :=
  ⟨⟨f 0 0, f 1 0, f 2 0, f 3 0⟩, ⟨f 0 1, f 1 1, f 2 1, f 3 1⟩,
   ⟨f 0 2, f 1 2, f 2 2, f 3 2⟩, ⟨f 0 3, f 1 3, f 2 3, f 3 3⟩⟩

end Sys2Proof.Machine
end

