-- ==== Sys2Proof/Machine/Operands.lean ====
section
/-! DEFINITION. The operands of the commands: the length fields (R77, R130) and the implicit registers (R78), byte by byte
and word by word. -/

namespace Sys2Proof.Machine

/-- "small tagged variant (Nk, Nr pair) selected once at key-expansion time" (R130); the labels are R3's. -/
inductive Variant where
  | aes128
  | aes192
  | aes256
  deriving DecidableEq, Repr

/-- Nk (R3, R7, R130). -/
def variantNk : Variant → Nat
  | .aes128 => 4
  | .aes192 => 6
  | .aes256 => 8

/-- Nr (R3, R7, R130). -/
def variantNr : Variant → Nat
  | .aes128 => 10
  | .aes192 => 12
  | .aes256 => 14

/-- variant(L) of R130; `none` is INVALID. -/
def variant (klen : Nat) : Option Variant :=
  if klen = 16 then some .aes128
  else if klen = 24 then some .aes192
  else if klen = 32 then some .aes256
  else none

/-- Key byte k: byte(R[KEY(k div 4)], k mod 4) (R25). -/
def keyByte (key : Vector Word 8) (k : Fin 32) : Byte :=
  byteOf (key[k.val / 4]'(by omega)) ⟨k.val % 4, by omega⟩

/-- The key words a command reads, [R[KEY0] .. R[KEY(Nk-1)]] (R134, R140, R141). -/
def keyWords (key : Vector Word 8) (v : Variant) : List Word := key.toList.take (variantNk v)

/-- RK[i] as a round reads it (R152). Past the store's end (no rule reads there, R137) it is a free value; log 12. -/
def roundKeyWord (rk : Vector Word 60) (i : Nat) : Word :=
  if h : i < 60 then rk[i] else Config.roundKeyPastEnd i

/-- Byte k of round key n: byte(RK[4n + k div 4], k mod 4) (R31, R136). -/
def roundKeyByte (rk : Vector Word 60) (n : Nat) (k : Fin 16) : Byte :=
  byteOf (roundKeyWord rk (4 * n + k.val / 4)) ⟨k.val % 4, by omega⟩

end Sys2Proof.Machine
end

