-- ==== Sys2Proof/Machine/Ops.lean ====
section
/-! DEFINITION. The named operations on the machine: the register window (R20, R53, R55 to R57), bus reads and writes (R56,
R193, R194), issue (R190), completion and its error reporting (R191, R192, R214), the result registers, and the reset pin
(R240). -/

namespace Sys2Proof.Machine

/-- The registers of the window (R20). -/
inductive Reg where
  | cmd
  | status
  | id
  | key (j : Fin 8)
  | din (j : Fin 4)
  | dout (j : Fin 4)
  | opa
  | opb
  | res
  | rk (i : Fin 60)
  deriving DecidableEq, Repr

/-- The byte offset of a register (R20). -/
def regOffset : Reg → Offset
  | .cmd => 0x000#12
  | .status => 0x004#12
  | .id => 0x008#12
  | .key j => BitVec.ofNat 12 (0x010 + 4 * j.val)
  | .din j => BitVec.ofNat 12 (0x030 + 4 * j.val)
  | .dout j => BitVec.ofNat 12 (0x040 + 4 * j.val)
  | .opa => 0x050#12
  | .opb => 0x054#12
  | .res => 0x058#12
  | .rk i => BitVec.ofNat 12 (0x100 + 4 * i.val)

/-- "An access at offset `a` goes to the register at `a & 0xFFC`" (R53). -/
def alignedOffset (a : Offset) : Nat := (a &&& 0xFFC#12).toNat

/-- The register at an offset (R20, R53); `none` is an unmapped offset (R55, R57). -/
def regAt (a : Offset) : Option Reg :=
  let n := alignedOffset a
  if n = 0x000 then some .cmd
  else if n = 0x004 then some .status
  else if n = 0x008 then some .id
  else if h : 0x010 ≤ n ∧ n < 0x030 then some (.key ⟨(n - 0x010) / 4, by omega⟩)
  else if h : 0x030 ≤ n ∧ n < 0x040 then some (.din ⟨(n - 0x030) / 4, by omega⟩)
  else if h : 0x040 ≤ n ∧ n < 0x050 then some (.dout ⟨(n - 0x040) / 4, by omega⟩)
  else if n = 0x050 then some .opa
  else if n = 0x054 then some .opb
  else if n = 0x058 then some .res
  else if h : 0x100 ≤ n ∧ n < 0x1F0 then some (.rk ⟨(n - 0x100) / 4, by omega⟩)
  else none

/-- The offset on the block's own bus of a platform address, if the platform selects the window for it (R20, R50, R53). -/
def windowOffset (addr : Nat) : Option Offset :=
  if Config.aesBase ≤ addr ∧ addr < Config.aesBase + 0x1000 then some (BitVec.ofNat 12 (addr - Config.aesBase)) else none

/-- ID "always reads 0x41455307" (R27). -/
def idWord : Word := 0x41455307#32

/-- What a register reads as (R20, R22, R23, R25 to R31). -/
def State.readReg (s : State) : Reg → Word
  | .cmd => 0
  | .status => s.statusWord
  | .id => idWord
  | .key j => s.key[j]
  | .din j => s.din[j]
  | .dout j => s.dout[j]
  | .opa => s.opa.setWidth 32
  | .opb => s.opb.setWidth 32
  | .res => s.res.setWidth 32
  | .rk i => s.rk[i]

/-- The value a BusRead returns: 0 at an unmapped offset (R55), and 0 while rst is asserted (R240). -/
def State.readValue (s : State) (a : Offset) : Word :=
  if s.rst then 0
  else match regAt a with
    | none => 0
    | some r => s.readReg r

/-- A BusRead. "Reads have no side effect" (R56, R194): only the read data port takes the value. Log 6. -/
def State.busRead (s : State) (a : Offset) : State := { s with readData := s.readValue a }

/-- Issue (R190). -/
def State.issue (s : State) (c : Word) : State := { s with pend := some c, done := false, err := .success }

/-- A write of v to a register while idle (R20, R24 to R30, R55, R56). -/
def State.writeReg (s : State) (r : Reg) (v : Word) : State :=
  match r with
  | .cmd => s.issue v
  | .status => s.clearFlags v
  | .id => s
  | .key j => { s with key := s.key.set j v }
  | .din j => { s with din := s.din.set j v }
  | .dout _ => s
  | .opa => { s with opa := v.setWidth 8 }
  | .opb => { s with opb := v.setWidth 8 }
  | .res => s
  | .rk _ => s

/-- A BusWrite: ignored while rst is asserted (R240), dropped while busy (R193), ignored at an unmapped offset (R55). -/
def State.busWrite (s : State) (a : Offset) (v : Word) : State :=
  if s.rst then s
  else if s.busy then s.dropWrite
  else match regAt a with
    | none => s
    | some r => s.writeReg r v

/-- The end of a completion (R191): ERR, BUSY 0, DONE 1, PEND none. -/
def State.complete (s : State) (code : ErrCode) : State := { s with err := code, done := true, pend := none }

/-- Taking an exception: "aes_core has no trap, vector, handler or mode change. When a command fails, the completion step
writes the following, and nothing else: ERR = code, BUSY = 0, DONE = 1" (R214; R192, R213). There is no return (R215): the
next issue writes ERR back to 0. -/
def State.reportError (s : State) (code : ErrCode) : State := s.complete code

/-- The completion step around a command's body (R191): the body either raises an error, and then only the error is reported
(R192), or gives the state with its results, which then completes with ERR = 0. -/
def completion (s : State) (body : Except ErrCode State) : Result :=
  match body with
  | .ok t => .next (t.complete .success)
  | .error code => .next (s.reportError code)

/-- R[RES] <- zext_32(b) (R100, R101, R120, R121). -/
def State.setRes (s : State) (b : Byte) : State := { s with res := b }

/-- store_dout(out): all four words in one step (R28, R151). -/
def State.storeDout (s : State) (out : Vector Word 4) : State := { s with dout := out }

/-- The store's 60 words from the expansion's: "RK[i] <- (w[i] if i < 4*(Nr+1) else 0)" (R138, R140). -/
@[irreducible] def scheduleOf (w : List Word) (nr : Nat) : Vector Word 60 :=
  Vector.ofFn (fun i => if i.val < 4 * (nr + 1) then w.getD i.val 0 else 0)

/-- The new schedule with KS_VALID, NK and NR (R140). -/
def State.storeSchedule (s : State) (w : List Word) (v : Variant) : State :=
  { s with
    rk := scheduleOf w (variantNr v)
    ksValid := true
    nk := BitVec.ofNat 4 (variantNk v)
    nr := BitVec.ofNat 4 (variantNr v) }

/-- S after a cipher command: "any value" (U21; R34). The next free value, and the counter moves on. Log 5. -/
def State.leaveMatrix (s : State) : State :=
  { s with sMat := Config.freeStateMatrix s.freeCount, freeCount := s.freeCount + 1 }

/-- Reset, with the pin at a level: asserted or released, "every piece of state takes the value in R37" (R240). The model's own
fields stay: the turns to come, the record of the latest read and the counter of free values (log 7). -/
def State.pinReset (s : State) (level : Bool) : State :=
  { State.reset with rst := level, readData := s.readData, turns := s.turns, freeCount := s.freeCount }

/-- Driving the pin to a level is a reset event of R240 when it asserts the pin (a high level) or releases it (a low level while
it was high). -/
def State.isResetEvent (s : State) (level : Bool) : Bool := level || s.rst

/-- The reset pin is driven to a level. A reset event resets the block (R240). DESIGN CHOICE (log 22): a low pin that is driven low
is neither asserted nor released, R240 gives no reset there, and nothing changes. -/
def State.drivePin (s : State) (level : Bool) : State := if s.isResetEvent level then s.pinReset level else s

end Sys2Proof.Machine
end

