-- ==== Sys2Proof/Machine/GfArith.lean ====
section
/-! DEFINITION. GF(2^8) arithmetic (R89 to R95) and the commands GFMUL and GFEXP (R100, R101). -/

namespace Sys2Proof.Machine

/-- xtime, multiplication by 02 (R90). -/
def xtime (a : Byte) : Byte :=
  let t : BitVec 9 := a.setWidth 9 <<< 1
  if t.getLsbD 8 then (t ^^^ 0x11B#9).setWidth 8 else t.setWidth 8

/-- One pass of the loop of R91, on p and x, for bit i of b. -/
def gfMultPass (b : Byte) (px : Byte × Byte) (i : Nat) : Byte × Byte :=
  (if b.getLsbD i then px.1 ^^^ px.2 else px.1, xtime px.2)

/-- gf28_mult (R91): the loop for i in 0..7 from p = 0, x = a. -/
def gf28Mult (a b : Byte) : Byte := ((List.range 8).foldl (gfMultPass b) (0x00#8, a)).1

/-- The loop of R93, run n times from r = 1. -/
def gfPower (a : Byte) : Nat → Byte
  | 0 => 0x01#8
  | n + 1 => gf28Mult (gfPower a n) a

/-- gf28_exp (R93), the exponent an unsigned integer 0..255. -/
def gf28Exp (a e : Byte) : Byte := gfPower a e.toNat

/-- gf_inv(a) = gf28_exp(a, 254); 0 at 0 (R95). -/
def gfInv (a : Byte) : Byte := gf28Exp a 254

/-- GFMUL (R100). -/
def execGfmul (s : State) : Result := completion s (.ok (s.setRes (gf28Mult s.opa s.opb)))

/-- GFEXP (R101). -/
def execGfexp (s : State) : Result := completion s (.ok (s.setRes (gf28Exp s.opa s.opb)))

end Sys2Proof.Machine
end

