-- ==== Sys2Proof/Machine/SBox.lean ====
section
/-! DEFINITION. The affine transforms (R110, R111), the S-boxes by formula (R112, R114) and by table (R113, R116), the table
of inverses (R117), and the commands SBOX and ISBOX (R120, R121). The commands and the cipher use the tables: "A model may
define s_box by the formula of rule R112 or by this table: the two are equal" (R113); log 10. -/

namespace Sys2Proof.Machine

/-- The forward affine transform (R110; constants: log 14). -/
def affine (b : Byte) : Byte := b ^^^ rotl8 b 1 ^^^ rotl8 b 2 ^^^ rotl8 b 3 ^^^ rotl8 b 4 ^^^ 0x63#8

/-- The inverse affine transform (R111; constants: log 14). -/
def invAffine (b : Byte) : Byte := rotl8 b 1 ^^^ rotl8 b 3 ^^^ rotl8 b 6 ^^^ 0x05#8

/-- s_box(x) = affine(gf_inv(x)), the formula of R112. -/
def sBoxFormula (x : Byte) : Byte := affine (gfInv x)

/-- s_box_inv(y) = gf_inv(inv_affine(y)), the formula of R114. -/
def sBoxInvFormula (y : Byte) : Byte := gfInv (invAffine y)

/-- Entry x of a printed table: "Row = high nibble of x, column = low nibble", column 0 leftmost (R113, R116, R117). -/
def tableEntry (table : List (BitVec 128)) (x : Byte) : Byte :=
  (table.getD (x.toNat / 16) 0).extractLsb' (8 * (15 - x.toNat % 16)) 8

/-- The forward S-box, row by row (R113). -/
def sBoxTable : List (BitVec 128) :=
  [ 0x637c777bf26b6fc53001672bfed7ab76#128,
    0xca82c97dfa5947f0add4a2af9ca472c0#128,
    0xb7fd9326363ff7cc34a5e5f171d83115#128,
    0x04c723c31896059a071280e2eb27b275#128,
    0x09832c1a1b6e5aa0523bd6b329e32f84#128,
    0x53d100ed20fcb15b6acbbe394a4c58cf#128,
    0xd0efaafb434d338545f9027f503c9fa8#128,
    0x51a3408f929d38f5bcb6da2110fff3d2#128,
    0xcd0c13ec5f974417c4a77e3d645d1973#128,
    0x60814fdc222a908846eeb814de5e0bdb#128,
    0xe0323a0a4906245cc2d3ac629195e479#128,
    0xe7c8376d8dd54ea96c56f4ea657aae08#128,
    0xba78252e1ca6b4c6e8dd741f4bbd8b8a#128,
    0x703eb5664803f60e613557b986c11d9e#128,
    0xe1f8981169d98e949b1e87e9ce5528df#128,
    0x8ca1890dbfe6426841992d0fb054bb16#128 ]

/-- The inverse S-box, row by row (R116). -/
def sBoxInvTable : List (BitVec 128) :=
  [ 0x52096ad53036a538bf40a39e81f3d7fb#128,
    0x7ce339829b2fff87348e4344c4dee9cb#128,
    0x547b9432a6c2233dee4c950b42fac34e#128,
    0x082ea16628d924b2765ba2496d8bd125#128,
    0x72f8f66486689816d4a45ccc5d65b692#128,
    0x6c704850fdedb9da5e154657a78d9d84#128,
    0x90d8ab008cbcd30af7e45805b8b34506#128,
    0xd02c1e8fca3f0f02c1afbd0301138a6b#128,
    0x3a9111414f67dcea97f2cfcef0b4e673#128,
    0x96ac7422e7ad3585e2f937e81c75df6e#128,
    0x47f11a711d29c5896fb7620eaa18be1b#128,
    0xfc563e4bc6d279209adbc0fe78cd5af4#128,
    0x1fdda8338807c731b11210592780ec5f#128,
    0x60517fa919b54a0d2de57a9f93c99cef#128,
    0xa0e03b4dae2af5b0c8ebbb3c83539961#128,
    0x172b047eba77d626e169146355210c7d#128 ]

/-- The multiplicative inverses, row by row (R117). No command reads this table: it is here to be held against gf_inv. -/
def gfInvTable : List (BitVec 128) :=
  [ 0x00018df6cb527bd1e84f29c0b0e1e5c7#128,
    0x74b4aa4b992b605f583ffdccff40eeb2#128,
    0x3a6e5af1554da8c9c10a98153044a2c2#128,
    0x2c45926cf3396642f235206f77bb5919#128,
    0x1dfe37672d31f569a764ab135425e909#128,
    0xed5c05ca4c2487bf183e22f051ec6117#128,
    0x165eafd349a63643f44791df3393213b#128,
    0x79b7978510b5ba3cb670d006a1fa8182#128,
    0x837e7f809673be569b9e95d9f702b9a4#128,
    0xde6a326dd88a84722a149f88f9dc899a#128,
    0xfb7c2ec38fb8654826c8124acee7d262#128,
    0x0ce01fef11757871a58e763dbdbc8657#128,
    0x0b282fa3dad4e40fa92753041bfcace6#128,
    0x7a07ae63c5dbe2ea948bc4d59df8906b#128,
    0xb10dd6ebc60ecfad084ed7e35d501eb3#128,
    0x5b2338346846038cdd9c7da0cd1a411c#128 ]

/-- s_box (R112, R113). -/
def sBox (x : Byte) : Byte := tableEntry sBoxTable x

/-- s_box_inv (R114, R116). -/
def sBoxInv (y : Byte) : Byte := tableEntry sBoxInvTable y

/-- SBOX (R120). -/
def execSbox (s : State) : Result := completion s (.ok (s.setRes (sBox s.opa)))

/-- ISBOX (R121). -/
def execIsbox (s : State) : Result := completion s (.ok (s.setRes (sBoxInv s.opa)))

end Sys2Proof.Machine
end

