-- ==== Sys2Proof/Machine/KeyExpand.lean ====
section
/-! DEFINITION. Key expansion (R131 to R138) and the command EXPKEY (R140). -/

namespace Sys2Proof.Machine

/-- RotWord (R131): [a0, a1, a2, a3] becomes [a1, a2, a3, a0]. -/
def rotWord (w : Word) : Word := wordOf (byteOf w 1) (byteOf w 2) (byteOf w 3) (byteOf w 0)

/-- Rcon[j] = word(gf28_exp(0x02, j - 1), 0, 0, 0) for j = 1..10 (R132; constants: log 14); elsewhere "not defined", a free
value (log 11). -/
def rcon (j : Nat) : Word :=
  if 1 ≤ j ∧ j ≤ 10 then wordOf (gf28Exp 0x02#8 (BitVec.ofNat 8 (j - 1))) 0 0 0 else Config.rconUndefined j

/-- SubWord (R133). -/
def subWord (w : Word) : Word :=
  wordOf (sBox (byteOf w 0)) (sBox (byteOf w 1)) (sBox (byteOf w 2)) (sBox (byteOf w 3))

/-- temp of R135 for word i, from w[i-1]. -/
def expandTemp (nk i : Nat) (prev : Word) : Word :=
  if i % nk = 0 then subWord (rotWord prev) ^^^ rcon (i / nk)
  else if nk = 8 ∧ i % nk = 4 then subWord prev
  else prev

/-- w[i] = w[i-Nk] ^ temp (R135), for i the number of words there are so far. -/
def nextWord (nk : Nat) (w : List Word) : Word :=
  w.getD (w.length - nk) 0 ^^^ expandTemp nk w.length (w.getD (w.length - 1) 0)

/-- The loop of R135, run n times: each pass adds one word. -/
def expandLoop (nk : Nat) : Nat → List Word → List Word
  | 0, w => w
  | n + 1, w => expandLoop nk n (w ++ [nextWord nk w])

/-- aes_key_expand (R135): i runs from Nk to 4*(Nr+1)-1. -/
def aesKeyExpand (kw : List Word) (v : Variant) : List Word :=
  expandLoop (variantNk v) (4 * (variantNr v + 1) - variantNk v) kw

/-- The body of EXPKEY (R140). -/
def expkeyBody (klen : Nat) (s : State) : Except ErrCode State :=
  match variant klen with
  | none => .error .invalidKeyLength
  | some v => .ok (s.storeSchedule (aesKeyExpand (keyWords s.key v) v) v)

/-- EXPKEY (R140). -/
def execExpkey (klen : Nat) (s : State) : Result := completion s (expkeyBody klen s)

end Sys2Proof.Machine
end

