-- ==== Sys2Proof/Machine/Cipher.lean ====
section
/-! DEFINITION. The State and the round transformations (R150 to R158), Cipher and InvCipher (R160, R161), and the commands
ENC, ENCK, DEC and DECK (R170 to R173). "A model must use rules R160 and R161 exactly" (R165). -/

namespace Sys2Proof.Machine

/-- State load: S[r][c] = in[r + 4c] (R150). -/
def loadBlock (b : Vector Word 4) : StateMatrix :=
  matrixOf (fun r c => blockByte b ⟨r.val + 4 * c.val, by omega⟩)

/-- State store: R[DOUTc] <- word(S[0][c], S[1][c], S[2][c], S[3][c]) (R151). -/
def storeBlock (m : StateMatrix) : Vector Word 4 :=
  Vector.ofFn (fun c => wordOf (matrixGet m 0 c) (matrixGet m 1 c) (matrixGet m 2 c) (matrixGet m 3 c))

/-- AddRoundKey(n): S[r][c] ^ byte(RK[4n + c], r) (R152). -/
def addRoundKey (rk : Vector Word 60) (n : Nat) (m : StateMatrix) : StateMatrix :=
  matrixOf (fun r c => matrixGet m r c ^^^ byteOf (roundKeyWord rk (4 * n + c.val)) r)

/-- SubBytes (R153). -/
def subBytes (m : StateMatrix) : StateMatrix := matrixOf (fun r c => sBox (matrixGet m r c))

/-- ShiftRows: S'[r][c] = S[r][(c + r) mod 4] (R154); addition in Fin 4 is modulo 4. -/
def shiftRows (m : StateMatrix) : StateMatrix := matrixOf (fun r c => matrixGet m r (c + r))

/-- MixColumns on one column (R155). -/
def mixColumn (a : StateColumn) : StateColumn where
  r0 := gf28Mult 0x02#8 a.r0 ^^^ gf28Mult 0x03#8 a.r1 ^^^ a.r2 ^^^ a.r3
  r1 := a.r0 ^^^ gf28Mult 0x02#8 a.r1 ^^^ gf28Mult 0x03#8 a.r2 ^^^ a.r3
  r2 := a.r0 ^^^ a.r1 ^^^ gf28Mult 0x02#8 a.r2 ^^^ gf28Mult 0x03#8 a.r3
  r3 := gf28Mult 0x03#8 a.r0 ^^^ a.r1 ^^^ a.r2 ^^^ gf28Mult 0x02#8 a.r3

/-- MixColumns (R155). -/
def mixColumns (m : StateMatrix) : StateMatrix := ⟨mixColumn m.c0, mixColumn m.c1, mixColumn m.c2, mixColumn m.c3⟩

/-- InvShiftRows: S'[r][c] = S[r][(c - r + 4) mod 4] (R156); subtraction in Fin 4 is modulo 4. -/
def invShiftRows (m : StateMatrix) : StateMatrix := matrixOf (fun r c => matrixGet m r (c - r))

/-- InvSubBytes (R157). -/
def invSubBytes (m : StateMatrix) : StateMatrix := matrixOf (fun r c => sBoxInv (matrixGet m r c))

/-- InvMixColumns on one column (R158). -/
def invMixColumn (a : StateColumn) : StateColumn where
  r0 := gf28Mult 0x0e#8 a.r0 ^^^ gf28Mult 0x0b#8 a.r1 ^^^ gf28Mult 0x0d#8 a.r2 ^^^ gf28Mult 0x09#8 a.r3
  r1 := gf28Mult 0x09#8 a.r0 ^^^ gf28Mult 0x0e#8 a.r1 ^^^ gf28Mult 0x0b#8 a.r2 ^^^ gf28Mult 0x0d#8 a.r3
  r2 := gf28Mult 0x0d#8 a.r0 ^^^ gf28Mult 0x09#8 a.r1 ^^^ gf28Mult 0x0e#8 a.r2 ^^^ gf28Mult 0x0b#8 a.r3
  r3 := gf28Mult 0x0b#8 a.r0 ^^^ gf28Mult 0x0d#8 a.r1 ^^^ gf28Mult 0x09#8 a.r2 ^^^ gf28Mult 0x0e#8 a.r3

/-- InvMixColumns (R158). -/
def invMixColumns (m : StateMatrix) : StateMatrix :=
  ⟨invMixColumn m.c0, invMixColumn m.c1, invMixColumn m.c2, invMixColumn m.c3⟩

/-- "for round in 1..Nr-1" (R160): the middle rounds in rising order. -/
def middleRounds (nr : Nat) : List Nat := List.range' 1 (nr - 1)

/-- A middle round of Cipher: SubBytes; ShiftRows; MixColumns; AddRoundKey(round) (R160). -/
def encRound (rk : Vector Word 60) (m : StateMatrix) (round : Nat) : StateMatrix :=
  addRoundKey rk round (mixColumns (shiftRows (subBytes m)))

/-- A middle round of InvCipher: InvShiftRows; InvSubBytes; AddRoundKey(round); InvMixColumns (R161). -/
def decRound (rk : Vector Word 60) (m : StateMatrix) (round : Nat) : StateMatrix :=
  invMixColumns (addRoundKey rk round (invSubBytes (invShiftRows m)))

/-- The steps of Cipher on S, from the whitening to the final round (R160). -/
def cipherMatrix (rk : Vector Word 60) (nr : Nat) (m : StateMatrix) : StateMatrix :=
  addRoundKey rk nr (shiftRows (subBytes ((middleRounds nr).foldl (encRound rk) (addRoundKey rk 0 m))))

/-- The steps of InvCipher on S; the middle rounds go down (R161). -/
def invCipherMatrix (rk : Vector Word 60) (nr : Nat) (m : StateMatrix) : StateMatrix :=
  addRoundKey rk 0 (invSubBytes (invShiftRows ((middleRounds nr).reverse.foldl (decRound rk) (addRoundKey rk nr m))))

/-- Cipher(in, RK, Nr) (R160). -/
def cipher (inp : Vector Word 4) (rk : Vector Word 60) (nr : Nat) : Vector Word 4 :=
  storeBlock (cipherMatrix rk nr (loadBlock inp))

/-- InvCipher(in, RK, Nr) (R161). -/
def invCipher (inp : Vector Word 4) (rk : Vector Word 60) (nr : Nat) : Vector Word 4 :=
  storeBlock (invCipherMatrix rk nr (loadBlock inp))

/-- The body ENC and DEC share, for one of the two ciphers: the checks of R212 in order, then DOUT (R170, R172). -/
def storedScheduleBody (f : Vector Word 4 → Vector Word 60 → Nat → Vector Word 4) (blen : Nat) (s : State) :
    Except ErrCode State :=
  if blen ≠ 16 then .error .invalidBlockLength
  else if s.ksValid = false then .error .noSchedule
  else .ok ((s.storeDout (f s.din s.rk s.nr.toNat)).leaveMatrix)

/-- The body ENCK and DECK share, for one of the two ciphers: the checks of R212 in order, the new schedule, then DOUT with it
(R171, R173). -/
def facadeBody (f : Vector Word 4 → Vector Word 60 → Nat → Vector Word 4) (klen blen : Nat) (s : State) :
    Except ErrCode State :=
  match variant klen with
  | none => .error .invalidKeyLength
  | some v =>
    if blen ≠ 16 then .error .invalidBlockLength
    else
      let t := s.storeSchedule (aesKeyExpand (keyWords s.key v) v) v
      .ok ((t.storeDout (f s.din t.rk (variantNr v))).leaveMatrix)

/-- ENC (R170). -/
def execEnc (blen : Nat) (s : State) : Result := completion s (storedScheduleBody cipher blen s)

/-- ENCK (R171). -/
def execEnck (klen blen : Nat) (s : State) : Result := completion s (facadeBody cipher klen blen s)

/-- DEC (R172). -/
def execDec (blen : Nat) (s : State) : Result := completion s (storedScheduleBody invCipher blen s)

/-- DECK (R173). -/
def execDeck (klen blen : Nat) (s : State) : Result := completion s (facadeBody invCipher klen blen s)

end Sys2Proof.Machine
end

