-- ==== Sys2Proof/Machine/Control.lean ====
section
/-! DEFINITION. NOP (R195), ZEROIZE (R196) and the completion of an ILLEGAL word (R197). -/

namespace Sys2Proof.Machine

/-- The body of ZEROIZE (R196). -/
def State.zeroized (s : State) : State :=
  { s with
    key := Vector.replicate 8 0
    din := Vector.replicate 4 0
    dout := Vector.replicate 4 0
    opa := 0
    opb := 0
    res := 0
    rk := Vector.replicate 60 0
    sMat := zeroStateMatrix
    ksValid := false
    nk := 0
    nr := 0
    ovr := false }

/-- NOP: "Body: empty" (R195). -/
def execNop (s : State) : Result := completion s (.ok s)

/-- ZEROIZE (R196). -/
def execZeroize (s : State) : Result := completion s (.ok s.zeroized)

/-- A word that decodes to no command: "Body: raise Error(3)" (R197). -/
def completeIllegal (s : State) : Result := completion s (.error .illegalCommand)

end Sys2Proof.Machine
end

