-- ==== Sys2Proof/Machine/Dispatch.lean ====
section
/-! DEFINITION. The completion step of each command (R191), one arm per constructor of Instr. -/

namespace Sys2Proof.Machine

def exec (i : Instr) (s : State) : Host.Outcome State Fault Refusal :=
  match i with
  | .nop => Sys2Proof.Machine.execNop s
  | .expkey klen => Sys2Proof.Machine.execExpkey klen s
  | .enc blen => Sys2Proof.Machine.execEnc blen s
  | .enck klen blen => Sys2Proof.Machine.execEnck klen blen s
  | .dec blen => Sys2Proof.Machine.execDec blen s
  | .deck klen blen => Sys2Proof.Machine.execDeck klen blen s
  | .gfmul => Sys2Proof.Machine.execGfmul s
  | .gfexp => Sys2Proof.Machine.execGfexp s
  | .sbox => Sys2Proof.Machine.execSbox s
  | .isbox => Sys2Proof.Machine.execIsbox s
  | .zeroize => Sys2Proof.Machine.execZeroize s

end Sys2Proof.Machine
end

