-- ==== Sys2Proof/Machine/Agents.lean ====
section
/-! DEFINITION. The agents' steps (R199): the core's completion step, and one turn of the interleaving. -/

namespace Sys2Proof.Machine

/-- The command the core completes next, decoded (R73, R191). `none`: no command is pending or the word is ILLEGAL. -/
def State.pendingCommand (s : State) : Option Instr := s.pend.bind decode

/-- The core's turn. The completion step is enabled exactly when PEND = some(c) (R191) and rst is not asserted (R198, R240);
where it is not enabled the core's turn changes nothing (log 2). -/
def State.coreTurn (s : State) : Result :=
  if s.rst then .next s
  else match s.pend with
    | none => .next s
    | some c =>
      match decode c with
      | some i => exec i s
      | none => completeIllegal s

/-- One turn (R59, R199, R217). -/
def State.takeTurn (s : State) (t : Turn) : Result :=
  match t with
  | .busRead a => .next (s.busRead a)
  | .busWrite a v => .next (s.busWrite a v)
  | .narrowAccess _ _ => .refused .narrowAccess
  | .coreStep => s.coreTurn
  | .rst level => .next (s.drivePin level)

/-- The next turn of the state's list; with no turn left, the core's, so that a pending command completes (R198; log 3). -/
def State.nextTurn (s : State) : Result :=
  match s.turns with
  | [] => s.coreTurn
  | t :: rest => ({ s with turns := rest } : State).takeTurn t

end Sys2Proof.Machine
end

