-- ==== Sys2Proof/Machine/Step.lean ====
section
/-! DEFINITION. One step of the machine, and the machine about to run a given command word. -/

namespace Sys2Proof.Machine

/-- One step: the next host access, completion or reset (R59, R191, R199). -/
def step (s : State) : Host.Outcome State Fault Refusal := s.nextTurn

/-- `s` with the command word `w` of `nbits` bits pending, the pin released and no turn before the core's, so that the next
step completes that command. Log 4. -/
def State.withFetchWord (s : State) (nbits w : Nat) : State :=
  { s with pend := some (BitVec.ofNat 32 (w % 2 ^ nbits)), rst := false, turns := [] }

end Sys2Proof.Machine
end

