-- ==== Sys2Proof/Safety.lean ====
section
/-! DEFINITION. The terms claims use: the invariants of the reachable states (R23, R32, R194, R240, R253), what a host can see
(R34, R199), and which step comes next (R59, R191). -/

namespace Sys2Proof.Machine

/-- "A run is quiescent when PEND = none" (R199). -/
def State.quiescent (s : State) : Bool := s.pend.isNone

/-- The schedule store is empty, case (a) of R32. -/
def State.noScheduleStored (s : State) : Prop :=
  s.ksValid = false ∧ s.nk = 0 ∧ s.nr = 0 ∧ s.rk = Vector.replicate 60 0

/-- The schedule store holds the expansion of some key of the variant's length, case (b) of R32. -/
def State.scheduleStored (s : State) (v : Variant) : Prop :=
  s.ksValid = true ∧ s.nk = BitVec.ofNat 4 (variantNk v) ∧ s.nr = BitVec.ofNat 4 (variantNr v) ∧
    ∃ kw : List Word, kw.length = variantNk v ∧ s.rk = scheduleOf (aesKeyExpand kw v) (variantNr v)

/-- The schedule-store invariant (R32). -/
def State.scheduleInv (s : State) : Prop := s.noScheduleStored ∨ ∃ v, s.scheduleStored v

/-- While a command is pending, DONE = 0 (R194) and ERR = 0 (R253). -/
def State.pendingInv (s : State) : Prop := s.pend ≠ none → s.done = false ∧ s.err = .success

/-- The state the spec gives the block, with the pin's level and the model's own fields set aside (log 1, 5, 6, 7). -/
def State.specState (s : State) : State := { s with rst := false, readData := 0, turns := [], freeCount := 0 }

/-- While rst is asserted, every piece of state has its reset value (R240). -/
def State.pinInv (s : State) : Prop := s.rst = true → s.specState = State.reset

/-- The invariant of every reachable state. -/
def State.Inv (s : State) : Prop := s.scheduleInv ∧ s.pendingInv ∧ s.pinInv

/-- What can be told of a state from outside: everything but the hidden S (R34) and the counter of its free values. -/
def State.visible (s : State) : State := { s with sMat := zeroStateMatrix, freeCount := 0 }

/-- The next turn is the core's, or no turn is left. -/
def State.coreMoves (s : State) : Prop := s.turns = [] ∨ ∃ rest, s.turns = .coreStep :: rest

/-- The next step is the completion of the command `i` (R191). -/
def State.completesNext (s : State) (i : Instr) : Prop :=
  s.rst = false ∧ s.coreMoves ∧ ∃ c, s.pend = some c ∧ decode c = some i

/-- The next step is a completion, of a command or of an ILLEGAL word (R191). -/
def State.completionNext (s : State) : Prop := s.rst = false ∧ s.coreMoves ∧ s.pend ≠ none

/-- The next step asserts or releases the reset pin (R240); a low pin driven low is neither (log 22). -/
def State.pinNext (s : State) : Prop := ∃ level rest, s.turns = .rst level :: rest ∧ s.isResetEvent level = true

/-- The next step is a host write of v at an offset that reaches the register `r` while the block is idle (R56). -/
def State.writesNext (s : State) (r : Reg) (v : Word) : Prop :=
  s.rst = false ∧ s.pend = none ∧ ∃ a rest, s.turns = .busWrite a v :: rest ∧ regAt a = some r

/-- A turn that is a host access of 32 bits: BusRead or BusWrite (R199). -/
def Turn.isBusAccess : Turn → Bool
  | .busRead _ => true
  | .busWrite _ _ => true
  | .narrowAccess _ _ => false
  | .coreStep => false
  | .rst _ => false

/-- The matrix of R155, rows first. -/
def mixMatrix (i j : Fin 4) : Byte :=
  (([[0x02, 0x03, 0x01, 0x01], [0x01, 0x02, 0x03, 0x01], [0x01, 0x01, 0x02, 0x03], [0x03, 0x01, 0x01, 0x02]] :
    List (List Byte)).getD i.val []).getD j.val 0

/-- The inverse matrix of R158, rows first. -/
def invMixMatrix (i j : Fin 4) : Byte :=
  (([[0x0e, 0x0b, 0x0d, 0x09], [0x09, 0x0e, 0x0b, 0x0d], [0x0d, 0x09, 0x0e, 0x0b], [0x0b, 0x0d, 0x09, 0x0e]] :
    List (List Byte)).getD i.val []).getD j.val 0

end Sys2Proof.Machine
end

