-- ==== Sys2Proof/Certificates/Slice0/Obligations.lean ====
section
/-! DEFINITION. The statements for the provers, in the order of the spec: bytes and encoding, the window and the lifecycle, the
commands, the functions, the whole-machine rules. -/

open Sys2Proof Sys2Proof.Machine

/-! ## Bytes and the encoding -/

/-- R13: byte(w, m) = w[31-8m : 24-8m], word is concatenation with b0 leftmost, byte(word(b0,b1,b2,b3), m) = bm, and a word is
the word of its bytes. -/
def Obligations.WordIsItsBytesLeftmostFirst : Prop :=
  (∀ (w : Word) (m : Fin 4) (i : Nat), i < 8 → (byteOf w m).getLsbD i = w.getLsbD (24 - 8 * m.val + i)) ∧
  (∀ b0 b1 b2 b3 : Byte,
    wordOf b0 b1 b2 b3 = b0 ++ b1 ++ b2 ++ b3 ∧
    byteOf (wordOf b0 b1 b2 b3) 0 = b0 ∧ byteOf (wordOf b0 b1 b2 b3) 1 = b1 ∧
    byteOf (wordOf b0 b1 b2 b3) 2 = b2 ∧ byteOf (wordOf b0 b1 b2 b3) 3 = b3) ∧
  (∀ w : Word, wordOf (byteOf w 0) (byteOf w 1) (byteOf w 2) (byteOf w 3) = w)

/-- R72, R79: a well-formed command is the command its word decodes to, at every value of its length fields. -/
def Obligations.DecodeOfEncode : Prop :=
  ∀ i : Instr, i.wellFormed = true → decode (encode i) = some i

/-- R72, R73, R79: the command a word decodes to is well-formed and encodes to that word: no bit of a legal word is dropped. -/
def Obligations.EncodeOfDecode : Prop :=
  ∀ (c : Word) (i : Instr), decode c = some i → i.wellFormed = true ∧ encode i = c

/-- R72: "No word matches two rows". -/
def Obligations.NoWordMatchesTwoRows : Prop :=
  ∀ c : Word, (rows.filter (fun r => r.matches c)).length ≤ 1

/-- R74: the words (a) to (f) are exactly the words that decode to ILLEGAL, and each of them, when pending, completes with
ERR = 3 and nothing else. -/
def Obligations.IllegalWordsAreTheListedSix : Prop :=
  ∀ c : Word,
    (decode c = none ↔
      (9#4 ≤ opField c) ∨
      (rsvField c ≠ 0) ∨
      (kField c = true ∧ opField c ≠ 2 ∧ opField c ≠ 3) ∨
      ((opField c = 2 ∨ opField c = 3) ∧ kField c = false ∧ klenField c ≠ 0) ∨
      (opField c = 1 ∧ blenField c ≠ 0) ∨
      ((opField c = 0 ∨ (4#4 ≤ opField c ∧ opField c ≤ 8#4)) ∧ (klenField c ≠ 0 ∨ blenField c ≠ 0))) ∧
    (decode c = none → ∀ s : State, s.rst = false → s.pend = some c →
      (s.turns = [] → step s = .next { s with err := .illegalCommand, done := true, pend := none }) ∧
      (∀ rest, s.turns = .coreStep :: rest →
        step s = .next { s with turns := rest, err := .illegalCommand, done := true, pend := none }))

/-- Words of T22, R79 and R80, written out from the encodings, and what they decode to. -/
def Obligations.TableWordsDecode : Prop :=
  decodeTableWord 32 0x00000000 = some .nop ∧
  decodeTableWord 32 0x00001801 = some (.expkey 24) ∧
  decodeTableWord 32 0x00100002 = some (.enc 16) ∧
  decodeTableWord 32 0x00101882 = some (.enck 24 16) ∧
  decodeTableWord 32 0x003F3F82 = some (.enck 63 63) ∧
  decodeTableWord 32 0x00080003 = some (.dec 8) ∧
  decodeTableWord 32 0x00102083 = some (.deck 32 16) ∧
  decodeTableWord 32 0x00000004 = some .gfmul ∧
  decodeTableWord 32 0x00000005 = some .gfexp ∧
  decodeTableWord 32 0x00000006 = some .sbox ∧
  decodeTableWord 32 0x00000007 = some .isbox ∧
  decodeTableWord 32 0x00000008 = some .zeroize ∧
  decodeTableWord 32 0x80000001 = none ∧
  decodeTableWord 32 0x00000084 = none

/-! ## The register window and the command lifecycle -/

/-- R20, R53, R57: each register is at its offset, the two low address bits are ignored, and exactly the listed offsets are
unmapped. -/
def Obligations.WindowMapIsTheTable : Prop :=
  (∀ r : Reg, regAt (regOffset r) = some r) ∧
  (∀ a : Offset, regAt a = regAt (a &&& 0xFFC#12)) ∧
  (∀ a : Offset, regAt a = none ↔
    (a &&& 0xFFC#12) = 0x00C#12 ∨
    (0x05C#12 ≤ (a &&& 0xFFC#12) ∧ (a &&& 0xFFC#12) ≤ 0x0FC#12) ∨
    0x1F0#12 ≤ (a &&& 0xFFC#12))

/-- R55: unmapped, read-only and reserved targets. A read of an unmapped offset and of CMD gives 0; an idle write to an unmapped
offset or to ID, DOUT, RES, RK changes nothing; reserved bits of STATUS, OPA, OPB, RES read as 0 and ignore writes; every write
while busy only sets OVR; and no read, no dropped write and no write to a target other than CMD changes ERR. -/
def Obligations.UnmappedAndReadOnlyTargets : Prop :=
  ∀ s : State, s.rst = false →
    (∀ a, regAt a = none → s.readValue a = 0) ∧
    s.readReg .cmd = 0 ∧
    (s.pend = none → ∀ a v, regAt a = none → s.busWrite a v = s) ∧
    (s.pend = none → ∀ r v, (r = .id ∨ r = .res ∨ (∃ j, r = .dout j) ∨ (∃ i, r = .rk i)) →
      s.busWrite (regOffset r) v = s) ∧
    (s.readReg .status).extractLsb' 16 16 = 0 ∧
    (∀ r, (r = .opa ∨ r = .opb ∨ r = .res) → (s.readReg r).extractLsb' 8 24 = 0) ∧
    (∀ r v, (r = .opa ∨ r = .opb) → s.busWrite (regOffset r) v = s.busWrite (regOffset r) (v &&& 0xFF#32)) ∧
    (∀ v, s.busWrite (regOffset .status) v = s.busWrite (regOffset .status) (v &&& 0x6#32)) ∧
    (s.pend ≠ none → ∀ a v, s.busWrite a v = { s with ovr := true }) ∧
    (∀ a, (s.busRead a).err = s.err) ∧
    (∀ a v, s.pend ≠ none ∨ regAt a ≠ some .cmd → (s.busWrite a v).err = s.err)

/-- R24 (and R193 for the busy case): a write of v to STATUS clears DONE and OVR where bits 1 and 2 of v are 1, and nothing else;
while a command is pending it only sets OVR. -/
def Obligations.StatusWriteClearsDoneAndOvr : Prop :=
  ∀ (s : State) (a : Offset) (v : Word) (rest : List Turn),
    s.rst = false → regAt a = some .status → s.turns = .busWrite a v :: rest →
    (s.pend = none →
      step s = .next { s with
        turns := rest
        done := s.done && !v.getLsbD 1
        ovr := s.ovr && !v.getLsbD 2 }) ∧
    (s.pend ≠ none → step s = .next { s with turns := rest, ovr := true })

/-- R20, R25, R26, R29: an idle write to KEY, DIN, OPA or OPB makes that register read as the value written (its low byte for
OPA and OPB), and every other register reads as before. -/
def Obligations.DataWriteChangesOneRegister : Prop :=
  ∀ (s : State) (r : Reg) (v : Word), s.rst = false → s.pend = none →
    ((∃ j, r = .key j) ∨ (∃ j, r = .din j) ∨ r = .opa ∨ r = .opb) →
    (∀ r', r' ≠ r → (s.busWrite (regOffset r) v).readReg r' = s.readReg r') ∧
    ((∃ j, r = .key j) ∨ (∃ j, r = .din j) → (s.busWrite (regOffset r) v).readReg r = v) ∧
    (r = .opa ∨ r = .opb → (s.busWrite (regOffset r) v).readReg r = v &&& 0xFF#32) ∧
    (s.busWrite (regOffset r) v).sMat = s.sMat ∧ (s.busWrite (regOffset r) v).pend = s.pend

/-- R190: every 32-bit word written to CMD while idle issues, ILLEGAL words too; issue writes PEND, BUSY, DONE and ERR and
nothing else. A write to CMD while a command is pending is dropped. -/
def Obligations.CmdWriteIssues : Prop :=
  ∀ (s : State) (a : Offset) (c : Word) (rest : List Turn),
    s.rst = false → regAt a = some .cmd → s.turns = .busWrite a c :: rest →
    (s.pend = none →
      ∃ t, step s = .next t ∧ t = { s with turns := rest, pend := some c, done := false, err := .success } ∧
        t.busy = true ∧ t.irq = false) ∧
    (s.pend ≠ none → step s = .next { s with turns := rest, ovr := true })

/-- R193: a write to any offset while a command is pending sets OVR and nothing else. -/
def Obligations.WriteWhileBusyOnlySetsOvr : Prop :=
  ∀ (s : State) (a : Offset) (v : Word) (rest : List Turn),
    s.rst = false → s.pend ≠ none → s.turns = .busWrite a v :: rest →
    step s = .next { s with turns := rest, ovr := true }

/-- R56, R194: a read changes nothing but the read data port, which takes the register's current value; while a command is
pending STATUS reads BUSY = 1 and DONE = 0. -/
def Obligations.ReadHasNoSideEffect : Prop :=
  ∀ (s : State) (a : Offset) (rest : List Turn), s.rst = false → s.turns = .busRead a :: rest →
    step s = .next { s with
      turns := rest
      readData := match regAt a with
        | none => 0
        | some r => s.readReg r } ∧
    (s.Inv → s.pend ≠ none → (s.readReg .status).getLsbD 0 = true ∧ (s.readReg .status).getLsbD 1 = false)

/-- R23: where each field stands in the STATUS word, at every bit. -/
def Obligations.StatusWordFields : Prop :=
  ∀ s : State,
    (s.readReg .status).getLsbD 0 = s.pend.isSome ∧
    (s.readReg .status).getLsbD 1 = s.done ∧
    (s.readReg .status).getLsbD 2 = s.ovr ∧
    (s.readReg .status).getLsbD 3 = s.ksValid ∧
    (s.readReg .status).extractLsb' 4 4 = errBits s.err ∧
    (s.readReg .status).extractLsb' 8 4 = s.nk ∧
    (s.readReg .status).extractLsb' 12 4 = s.nr ∧
    (s.readReg .status).extractLsb' 16 16 = 0

/-- R191: with a command pending and the core to move, the step is the command's meaning, run on the state with the turn taken
off; the offered word alone decides which command. -/
def Obligations.StepCompletesTheDecodedCommand : Prop :=
  ∀ (s : State) (c : Word) (i : Instr), s.rst = false → s.pend = some c → decode c = some i →
    (s.turns = [] → step s = exec i s) ∧
    (∀ rest, s.turns = .coreStep :: rest → step s = exec i { s with turns := rest })

/-- R191, R198: a completion, of a command or of an ILLEGAL word, always ends with PEND none, BUSY 0 and DONE 1. -/
def Obligations.EveryCompletionEndsIdleAndDone : Prop :=
  ∀ s : State, s.completionNext →
    ∃ t, step s = .next t ∧ t.pend = none ∧ t.busy = false ∧ t.done = true ∧ t.irq = true

/-- R192, R213, R214: a completion with ERR ≠ 0 writes ERR, BUSY (that is PEND) and DONE, and leaves everything else as it was:
the schedule store, KS_VALID, NK, NR, DOUT, RES and every input register. -/
def Obligations.FailedCommandWritesOnlyStatus : Prop :=
  ∀ s t : State, s.rst = false → s.pend ≠ none → s.coreTurn = .next t → t.err ≠ .success →
    t = { s with err := t.err, done := true, pend := none }

/-! ## The commands -/

/-- R195: NOP. Word 0 decodes to it, no other word with OP = 0 is legal, and it writes ERR 0, DONE 1 and PEND, nothing else. -/
def Obligations.NopWritesOnlyStatus : Prop :=
  decode 0x00000000#32 = some .nop ∧
  (∀ c : Word, opField c = 0 → c ≠ 0 → decode c = none) ∧
  (∀ s : State, exec .nop s = .next { s with err := .success, done := true, pend := none })

/-- R100: GFMUL writes RES with the product of OPA and OPB, and STATUS; nothing else. A zero operand gives 0. -/
def Obligations.GfmulWritesProduct : Prop :=
  decode 0x00000004#32 = some .gfmul ∧
  (∀ c : Word, opField c = 4 → c ≠ 4 → decode c = none) ∧
  (∀ s : State, exec .gfmul s =
    .next { s with res := gf28Mult s.opa s.opb, err := .success, done := true, pend := none }) ∧
  (∀ a : Byte, gf28Mult a 0x00#8 = 0x00#8 ∧ gf28Mult 0x00#8 a = 0x00#8) ∧
  gf28Mult 0x57#8 0x83#8 = 0xC1#8

/-- R101: GFEXP writes RES with OPA to the power OPB, and STATUS; nothing else. The corner cases of R101. -/
def Obligations.GfexpWritesPower : Prop :=
  decode 0x00000005#32 = some .gfexp ∧
  (∀ s : State, exec .gfexp s =
    .next { s with res := gf28Exp s.opa s.opb, err := .success, done := true, pend := none }) ∧
  (∀ a : Byte, gf28Exp a 0 = 0x01#8) ∧
  (∀ e : Byte, e ≠ 0 → gf28Exp 0x00#8 e = 0x00#8) ∧
  (∀ a : Byte, gf28Exp a 254 = gfInv a) ∧
  (∀ a : Byte, a ≠ 0 → gf28Exp a 255 = 0x01#8) ∧
  gf28Exp 0x53#8 0xFE#8 = 0xCA#8

/-- R120: SBOX writes RES with the S-box of OPA, and STATUS; nothing else, so OPB is not read. -/
def Obligations.SboxWritesSubstitution : Prop :=
  decode 0x00000006#32 = some .sbox ∧
  (∀ s : State, exec .sbox s =
    .next { s with res := affine (gfInv s.opa), err := .success, done := true, pend := none }) ∧
  sBox 0x00#8 = 0x63#8 ∧ sBox 0xFF#8 = 0x16#8 ∧ sBox 0x53#8 = 0xED#8 ∧ (∀ x : Byte, sBox x ≠ x)

/-- R121: ISBOX writes RES with the inverse S-box of OPA, and STATUS; nothing else. SBOX followed by ISBOX on its result gives the
operand back. -/
def Obligations.IsboxWritesInverseSubstitution : Prop :=
  decode 0x00000007#32 = some .isbox ∧
  (∀ s : State, exec .isbox s =
    .next { s with res := gfInv (invAffine s.opa), err := .success, done := true, pend := none }) ∧
  sBoxInv 0x63#8 = 0x00#8 ∧ sBoxInv 0x00#8 = 0x52#8 ∧ sBoxInv 0xED#8 = 0x53#8 ∧
  (∀ s : State, ∃ t u, exec .sbox s = .next t ∧ exec .isbox { t with opa := t.res } = .next u ∧ u.res = s.opa)

/-- R130: the key length selects (Nk, Nr), and no other length is valid. -/
def Obligations.KeyLengthSelectsVariant : Prop :=
  (∃ v, variant 16 = some v ∧ variantNk v = 4 ∧ variantNr v = 10) ∧
  (∃ v, variant 24 = some v ∧ variantNk v = 6 ∧ variantNr v = 12) ∧
  (∃ v, variant 32 = some v ∧ variantNk v = 8 ∧ variantNr v = 14) ∧
  (∀ n : Nat, variant n = none ↔ n ≠ 16 ∧ n ≠ 24 ∧ n ≠ 32)

/-- R140: EXPKEY with a valid key length stores the expansion of KEY0..KEY(Nk-1), zeros after it, and KS_VALID, NK and NR; with
an invalid one it reports ERR 1 and stores nothing. Nothing else changes. -/
def Obligations.ExpkeyStoresSchedule : Prop :=
  (∀ (klen : Nat) (v : Variant) (s : State), variant klen = some v →
    ∃ rk : Vector Word 60,
      exec (.expkey klen) s = .next { s with
        rk := rk
        ksValid := true
        nk := BitVec.ofNat 4 (variantNk v)
        nr := BitVec.ofNat 4 (variantNr v)
        err := .success
        done := true
        pend := none } ∧
      ∀ i : Fin 60, rk[i] =
        if i.val < 4 * (variantNr v + 1) then (aesKeyExpand (s.key.toList.take (variantNk v)) v).getD i.val 0 else 0) ∧
  (∀ (klen : Nat) (s : State), variant klen = none →
    exec (.expkey klen) s = .next { s with err := .invalidKeyLength, done := true, pend := none })

/-- R170: ENC. Its two errors in order, each writing only STATUS; otherwise DOUT is Cipher of DIN under the stored schedule and NR,
and nothing else of the registers changes. S takes some value (U21; log 5). -/
def Obligations.EncEncryptsWithStoredSchedule : Prop :=
  (∀ (blen : Nat) (s : State), blen ≠ 16 →
    exec (.enc blen) s = .next { s with err := .invalidBlockLength, done := true, pend := none }) ∧
  (∀ s : State, s.ksValid = false →
    exec (.enc 16) s = .next { s with err := .noSchedule, done := true, pend := none }) ∧
  (∀ s : State, s.ksValid = true →
    ∃ m n, exec (.enc 16) s = .next { s with
      dout := cipher s.din s.rk s.nr.toNat
      err := .success
      done := true
      pend := none
      sMat := m
      freeCount := n })

/-- R172: DEC, as ENC with InvCipher. -/
def Obligations.DecDecryptsWithStoredSchedule : Prop :=
  (∀ (blen : Nat) (s : State), blen ≠ 16 →
    exec (.dec blen) s = .next { s with err := .invalidBlockLength, done := true, pend := none }) ∧
  (∀ s : State, s.ksValid = false →
    exec (.dec 16) s = .next { s with err := .noSchedule, done := true, pend := none }) ∧
  (∀ s : State, s.ksValid = true →
    ∃ m n, exec (.dec 16) s = .next { s with
      dout := invCipher s.din s.rk s.nr.toNat
      err := .success
      done := true
      pend := none
      sMat := m
      freeCount := n })

/-- R171: ENCK. Its two errors in order, each writing only STATUS; otherwise the new schedule with KS_VALID, NK and NR, and DOUT as
Cipher of DIN under the new schedule; nothing else of the registers changes. -/
def Obligations.EnckExpandsThenEncrypts : Prop :=
  (∀ (klen blen : Nat) (s : State), variant klen = none →
    exec (.enck klen blen) s = .next { s with err := .invalidKeyLength, done := true, pend := none }) ∧
  (∀ (klen blen : Nat) (v : Variant) (s : State), variant klen = some v → blen ≠ 16 →
    exec (.enck klen blen) s = .next { s with err := .invalidBlockLength, done := true, pend := none }) ∧
  (∀ (klen : Nat) (v : Variant) (s : State), variant klen = some v →
    ∃ (rk : Vector Word 60) (m : StateMatrix) (n : Nat),
      exec (.enck klen 16) s = .next { s with
        rk := rk
        ksValid := true
        nk := BitVec.ofNat 4 (variantNk v)
        nr := BitVec.ofNat 4 (variantNr v)
        dout := cipher s.din rk (variantNr v)
        err := .success
        done := true
        pend := none
        sMat := m
        freeCount := n } ∧
      ∀ i : Fin 60, rk[i] =
        if i.val < 4 * (variantNr v + 1) then (aesKeyExpand (s.key.toList.take (variantNk v)) v).getD i.val 0 else 0)

/-- R173: DECK, as ENCK with InvCipher. -/
def Obligations.DeckExpandsThenDecrypts : Prop :=
  (∀ (klen blen : Nat) (s : State), variant klen = none →
    exec (.deck klen blen) s = .next { s with err := .invalidKeyLength, done := true, pend := none }) ∧
  (∀ (klen blen : Nat) (v : Variant) (s : State), variant klen = some v → blen ≠ 16 →
    exec (.deck klen blen) s = .next { s with err := .invalidBlockLength, done := true, pend := none }) ∧
  (∀ (klen : Nat) (v : Variant) (s : State), variant klen = some v →
    ∃ (rk : Vector Word 60) (m : StateMatrix) (n : Nat),
      exec (.deck klen 16) s = .next { s with
        rk := rk
        ksValid := true
        nk := BitVec.ofNat 4 (variantNk v)
        nr := BitVec.ofNat 4 (variantNr v)
        dout := invCipher s.din rk (variantNr v)
        err := .success
        done := true
        pend := none
        sMat := m
        freeCount := n } ∧
      ∀ i : Fin 60, rk[i] =
        if i.val < 4 * (variantNr v + 1) then (aesKeyExpand (s.key.toList.take (variantNk v)) v).getD i.val 0 else 0)

/-- R196: ZEROIZE leaves the reset state except that DONE = 1: STATUS reads 2, irq is high, and ENC and DEC then report
NO_SCHEDULE. While a command is pending a write of its word is dropped, as any write is. -/
def Obligations.ZeroizeLeavesResetStateButDone : Prop :=
  decode 0x00000008#32 = some .zeroize ∧
  (∀ s : State, ∃ t, exec .zeroize s = .next t ∧
    t.specState = { State.reset with done := true } ∧ t.rst = s.rst ∧ t.turns = s.turns ∧
    t.statusWord = 0x00000002#32 ∧ t.irq = true ∧
    (∃ u, exec (.enc 16) t = .next u ∧ u.err = .noSchedule) ∧ (∃ u, exec (.dec 16) t = .next u ∧ u.err = .noSchedule)) ∧
  (∀ s : State, s.rst = false → s.pend ≠ none → s.busWrite (regOffset .cmd) 0x00000008#32 = { s with ovr := true })

/-- R212: the first check that fails is reported: ILLEGAL, then the key length, then the block length, then the schedule. -/
def Obligations.ErrorChecksInOrder : Prop :=
  (∀ (s : State) (c : Word), s.rst = false → s.pend = some c → decode c = none →
    ∃ t, s.coreTurn = .next t ∧ t.err = .illegalCommand) ∧
  (∀ (klen blen : Nat) (s : State), variant klen = none →
    (∃ t, exec (.expkey klen) s = .next t ∧ t.err = .invalidKeyLength) ∧
    (∃ t, exec (.enck klen blen) s = .next t ∧ t.err = .invalidKeyLength) ∧
    (∃ t, exec (.deck klen blen) s = .next t ∧ t.err = .invalidKeyLength)) ∧
  (∀ (klen blen : Nat) (v : Variant) (s : State), variant klen = some v → blen ≠ 16 →
    (∃ t, exec (.enck klen blen) s = .next t ∧ t.err = .invalidBlockLength) ∧
    (∃ t, exec (.deck klen blen) s = .next t ∧ t.err = .invalidBlockLength)) ∧
  (∀ (blen : Nat) (s : State), blen ≠ 16 →
    (∃ t, exec (.enc blen) s = .next t ∧ t.err = .invalidBlockLength) ∧
    (∃ t, exec (.dec blen) s = .next t ∧ t.err = .invalidBlockLength)) ∧
  (∀ s : State, s.ksValid = false →
    (∃ t, exec (.enc 16) s = .next t ∧ t.err = .noSchedule) ∧
    (∃ t, exec (.dec 16) s = .next t ∧ t.err = .noSchedule)) ∧
  (∀ s : State,
    (∃ t, exec (.enck 20 8) s = .next t ∧ t.err = .invalidKeyLength) ∧
    (∃ t, exec (.enc 8) s = .next t ∧ t.err = .invalidBlockLength))

/-- R78, the column "writes on success": the frame of every command but ZEROIZE (which R196 and O29 state), as the window shows it, whatever error it ends
with. NOP: STATUS only. GFMUL, GFEXP, SBOX, ISBOX: RES. EXPKEY: RK. ENC, DEC: DOUT. ENCK, DECK: RK and DOUT. OVR, the pin and the
turns to come stay; KS_VALID, NK and NR stay but for the three expanding commands. That S and the counter of its free values stay but for the four
cipher commands is the model's choice (log 5): U21 gives S any value between commands. -/
def Obligations.CommandFrame : Prop :=
  (∀ s : State, ∃ t, exec .nop s = .next t ∧ ∀ r, r ≠ .status → t.readReg r = s.readReg r) ∧
  (∀ (i : Instr) (s : State), i = .gfmul ∨ i = .gfexp ∨ i = .sbox ∨ i = .isbox →
    ∃ t, exec i s = .next t ∧ ∀ r, r ≠ .status → r ≠ .res → t.readReg r = s.readReg r) ∧
  (∀ (klen : Nat) (s : State), ∃ t, exec (.expkey klen) s = .next t ∧
    ∀ r, r ≠ .status → (∀ k, r ≠ .rk k) → t.readReg r = s.readReg r) ∧
  (∀ (i : Instr) (s : State), (∃ b, i = .enc b ∨ i = .dec b) →
    ∃ t, exec i s = .next t ∧ ∀ r, r ≠ .status → (∀ j, r ≠ .dout j) → t.readReg r = s.readReg r) ∧
  (∀ (i : Instr) (s : State), (∃ k b, i = .enck k b ∨ i = .deck k b) →
    ∃ t, exec i s = .next t ∧
      ∀ r, r ≠ .status → (∀ j, r ≠ .dout j) → (∀ k, r ≠ .rk k) → t.readReg r = s.readReg r) ∧
  (∀ (i : Instr) (s : State), i ≠ .zeroize → ∃ t, exec i s = .next t ∧
    t.ovr = s.ovr ∧ t.rst = s.rst ∧ t.turns = s.turns ∧ t.readData = s.readData ∧
    ((∀ k b, i ≠ .expkey k ∧ i ≠ .enck k b ∧ i ≠ .deck k b) → t.ksValid = s.ksValid ∧ t.nk = s.nk ∧ t.nr = s.nr) ∧
    ((∀ k b, i ≠ .enc b ∧ i ≠ .dec b ∧ i ≠ .enck k b ∧ i ≠ .deck k b) → t.sMat = s.sMat ∧ t.freeCount = s.freeCount))

/-- 90_conflicts.md C4: the facade form is the composition of expansion and the schedule form: ENCK is EXPKEY followed by ENC, and
DECK is EXPKEY followed by DEC, in every field. That the hidden S and the counter of its free values agree too is the model's
choice (log 5): U21 gives S any value between commands. -/
def Obligations.FacadeIsExpkeyThenCipher : Prop :=
  ∀ (klen : Nat) (s : State), variant klen ≠ none →
    ∃ t, exec (.expkey klen) s = .next t ∧
      exec (.enck klen 16) s = exec (.enc 16) t ∧
      exec (.deck klen 16) s = exec (.dec 16) t

/-- R141, R252: key words at and beyond Nk are not read: changing them changes no result of EXPKEY, ENCK or DECK, only the key
registers themselves; and ENC and DEC read no key register at all. -/
def Obligations.KeyWordsBeyondNkAreNotRead : Prop :=
  (∀ (klen blen : Nat) (v : Variant) (s : State) (key' : Vector Word 8), variant klen = some v →
    (∀ j : Fin 8, j.val < variantNk v → key'[j] = s.key[j]) →
    ∀ i : Instr, i = .expkey klen ∨ i = .enck klen blen ∨ i = .deck klen blen →
      ∃ t, exec i s = .next t ∧ exec i { s with key := key' } = .next { t with key := key' }) ∧
  (∀ (blen : Nat) (s : State) (key' : Vector Word 8) (i : Instr), i = .enc blen ∨ i = .dec blen →
    ∃ t, exec i s = .next t ∧ exec i { s with key := key' } = .next { t with key := key' })

/-! ## The functions -/

/-- R92: the laws of gf28_mult. -/
def Obligations.GfMultFieldLaws : Prop :=
  (∀ a b : Byte, gf28Mult a b = gf28Mult b a) ∧
  (∀ a b c : Byte, gf28Mult (gf28Mult a b) c = gf28Mult a (gf28Mult b c)) ∧
  (∀ a b c : Byte, gf28Mult a (b ^^^ c) = gf28Mult a b ^^^ gf28Mult a c) ∧
  (∀ a : Byte, gf28Mult a 0x01#8 = a) ∧
  (∀ a : Byte, gf28Mult a 0x00#8 = 0x00#8) ∧
  (∀ a : Byte, gf28Mult a 0x02#8 = xtime a) ∧
  (∀ a : Byte, a ≠ 0 → ∃ b : Byte, gf28Mult a b = 0x01#8 ∧ ∀ b' : Byte, gf28Mult a b' = 0x01#8 → b' = b)

/-- R94: the laws of gf28_exp. -/
def Obligations.GfExpLaws : Prop :=
  (∀ a : Byte, gf28Exp a 0 = 0x01#8) ∧
  (∀ a : Byte, gf28Exp a 1 = a) ∧
  (∀ e : Byte, e ≠ 0 → gf28Exp 0x00#8 e = 0x00#8) ∧
  (∀ e : Byte, gf28Exp 0x01#8 e = 0x01#8) ∧
  (∀ a : Byte, a ≠ 0 → gf28Exp a 255 = 0x01#8) ∧
  (∀ a e1 e2 : Byte, e1.toNat + e2.toNat ≤ 255 → gf28Exp a (e1 + e2) = gf28Mult (gf28Exp a e1) (gf28Exp a e2)) ∧
  gf28Exp 0x02#8 8 = 0x1B#8

/-- R95, R117: gf_inv is the inverse of every nonzero byte, is a to the 254, is 0 at 0, and is the printed table. -/
def Obligations.GfInverseOfNonzero : Prop :=
  (∀ a : Byte, gfInv a = gf28Exp a 254) ∧
  (∀ a : Byte, tableEntry gfInvTable a = gfInv a) ∧
  (∀ a : Byte, a ≠ 0 → gf28Mult a (gfInv a) = 0x01#8) ∧
  gfInv 0x00#8 = 0x00#8

/-- R115: the S-box and its inverse undo each other, the S-box is a permutation, and it has no fixed or anti-fixed point. R111: the
affine transforms undo each other. -/
def Obligations.SBoxInvariants : Prop :=
  (∀ x : Byte, sBoxInv (sBox x) = x) ∧
  (∀ y : Byte, sBox (sBoxInv y) = y) ∧
  (∀ x x' : Byte, sBox x = sBox x' → x = x') ∧ (∀ y : Byte, ∃ x : Byte, sBox x = y) ∧
  (∀ x : Byte, sBox x ≠ x ∧ sBox x ≠ x ^^^ 0xFF#8) ∧
  (∀ b : Byte, invAffine (affine b) = b ∧ affine (invAffine b) = b)

/-- R135: the expansion. It has 4(Nr+1) words, the first Nk are the key's, and every later word is w[i-Nk] XOR what the three cases
give for w[i-1]. -/
def Obligations.ExpansionRecurrence : Prop :=
  ∀ (v : Variant) (kw : List Word), kw.length = variantNk v →
    (aesKeyExpand kw v).length = 4 * (variantNr v + 1) ∧
    (∀ i, i < variantNk v → (aesKeyExpand kw v).getD i 0 = kw.getD i 0) ∧
    (∀ i, variantNk v ≤ i → i < 4 * (variantNr v + 1) →
      (aesKeyExpand kw v).getD i 0 =
        (aesKeyExpand kw v).getD (i - variantNk v) 0 ^^^
          (if i % variantNk v = 0 then
            subWord (rotWord ((aesKeyExpand kw v).getD (i - 1) 0)) ^^^
              wordOf (gfPower 0x02#8 (i / variantNk v - 1)) 0 0 0
          else if variantNk v = 8 ∧ i % variantNk v = 4 then subWord ((aesKeyExpand kw v).getD (i - 1) 0)
          else (aesKeyExpand kw v).getD (i - 1) 0))

/-- R150, R151: the State is loaded and stored column-major, byte r + 4c at row r and column c; storing undoes loading. -/
def Obligations.LoadAndStoreAreColumnMajor : Prop :=
  (∀ (b : Vector Word 4) (r c : Fin 4), matrixGet (loadBlock b) r c = blockByte b ⟨r.val + 4 * c.val, by omega⟩) ∧
  (∀ (m : StateMatrix) (r c : Fin 4), blockByte (storeBlock m) ⟨r.val + 4 * c.val, by omega⟩ = matrixGet m r c) ∧
  (∀ b : Vector Word 4, storeBlock (loadBlock b) = b)

/-- R152, R153, R154, R156, R157 and R164: the round transformations byte by byte, in the spec's index arithmetic; each new byte
is computed from the old S. -/
def Obligations.RoundTransformsByteByByte : Prop :=
  ∀ (m : StateMatrix) (r c : Fin 4),
    (∀ (rk : Vector Word 60) (n : Nat) (h : 4 * n + c.val < 60),
      matrixGet (addRoundKey rk n m) r c = matrixGet m r c ^^^ byteOf (rk[4 * n + c.val]'h) r) ∧
    matrixGet (subBytes m) r c = sBox (matrixGet m r c) ∧
    matrixGet (invSubBytes m) r c = sBoxInv (matrixGet m r c) ∧
    matrixGet (shiftRows m) r c = matrixGet m r ⟨(c.val + r.val) % 4, by omega⟩ ∧
    matrixGet (invShiftRows m) r c = matrixGet m r ⟨(c.val + 4 - r.val) % 4, by omega⟩

/-- R155, R158: MixColumns and InvMixColumns multiply each column by the fixed matrices over GF(2^8). -/
def Obligations.MixColumnsMultiplyByTheMatrices : Prop :=
  ∀ (m : StateMatrix) (i c : Fin 4),
    matrixGet (mixColumns m) i c =
      gf28Mult (mixMatrix i 0) (matrixGet m 0 c) ^^^ gf28Mult (mixMatrix i 1) (matrixGet m 1 c) ^^^
        gf28Mult (mixMatrix i 2) (matrixGet m 2 c) ^^^ gf28Mult (mixMatrix i 3) (matrixGet m 3 c) ∧
    matrixGet (invMixColumns m) i c =
      gf28Mult (invMixMatrix i 0) (matrixGet m 0 c) ^^^ gf28Mult (invMixMatrix i 1) (matrixGet m 1 c) ^^^
        gf28Mult (invMixMatrix i 2) (matrixGet m 2 c) ^^^ gf28Mult (invMixMatrix i 3) (matrixGet m 3 c)

/-- R159: the inverse pairs, both ways round, and what commutes. -/
def Obligations.RoundTransformInversePairs : Prop :=
  ∀ m : StateMatrix,
    invShiftRows (shiftRows m) = m ∧ shiftRows (invShiftRows m) = m ∧
    invSubBytes (subBytes m) = m ∧ subBytes (invSubBytes m) = m ∧
    invMixColumns (mixColumns m) = m ∧ mixColumns (invMixColumns m) = m ∧
    (∀ rk n, addRoundKey rk n (addRoundKey rk n m) = m) ∧
    subBytes (shiftRows m) = shiftRows (subBytes m) ∧
    invSubBytes (invShiftRows m) = invShiftRows (invSubBytes m)

/-- R162: InvCipher undoes Cipher and Cipher undoes InvCipher, for every block, every schedule and every number of rounds. -/
def Obligations.CipherRoundTrip : Prop :=
  ∀ (inp : Vector Word 4) (rk : Vector Word 60) (nr : Nat),
    invCipher (cipher inp rk nr) rk nr = inp ∧ cipher (invCipher inp rk nr) rk nr = inp

/-- The spec's three full-cipher vectors (T1 to T3, R118), through ENCK and back through DECK. -/
def Obligations.FullCipherVectors : Prop :=
  ∀ (klen : Nat) (ct : Vector Word 4),
    (klen = 16 ∧ ct = #v[0x69C4E0D8#32, 0x6A7B0430#32, 0xD8CDB780#32, 0x70B4C55A#32]) ∨
    (klen = 24 ∧ ct = #v[0xDDA97CA4#32, 0x864CDFE0#32, 0x6EAF70A0#32, 0xEC0D7191#32]) ∨
    (klen = 32 ∧ ct = #v[0x8EA2B7CA#32, 0x516745BF#32, 0xEAFC4990#32, 0x4B496089#32]) →
    ∀ s : State,
      s.key = #v[0x00010203#32, 0x04050607#32, 0x08090A0B#32, 0x0C0D0E0F#32,
        0x10111213#32, 0x14151617#32, 0x18191A1B#32, 0x1C1D1E1F#32] →
      (s.din = #v[0x00112233#32, 0x44556677#32, 0x8899AABB#32, 0xCCDDEEFF#32] →
        ∃ t, exec (.enck klen 16) s = .next t ∧ t.dout = ct) ∧
      (s.din = ct →
        ∃ t, exec (.deck klen 16) s = .next t ∧
          t.dout = #v[0x00112233#32, 0x44556677#32, 0x8899AABB#32, 0xCCDDEEFF#32])

/-! ## Reset and the whole-machine rules -/

/-- R37: the complete reset state: every register reads 0 but ID, nothing is pending, S is all zero and irq is low; and ZEROIZE at
reset gives the same state except that DONE = 1. -/
def Obligations.ResetStateIsZeroButId : Prop :=
  (∀ r : Reg, r ≠ .id → State.reset.readReg r = 0) ∧ State.reset.readReg .id = 0x41455307#32 ∧
  State.reset.pend = none ∧ State.reset.done = false ∧ State.reset.ovr = false ∧ State.reset.ksValid = false ∧
  State.reset.err = .success ∧ State.reset.nk = 0 ∧ State.reset.nr = 0 ∧
  (∀ r c, matrixGet State.reset.sMat r c = 0) ∧ State.reset.irq = false ∧
  exec .zeroize State.reset = .next { State.reset with done := true }

/-- R240: the reset pin gives every piece of state its reset value, when it is asserted (driven high) and when it is released
(driven low while high), and so aborts a pending command with DONE 0; while it is asserted, writes are ignored, reads return 0 and
no command completes. That a low pin driven low changes nothing is the model's choice (log 22). -/
def Obligations.ResetPinGivesResetState : Prop :=
  (∀ (s : State) (level : Bool) (rest : List Turn), s.turns = .rst level :: rest → level = true ∨ s.rst = true →
    ∃ t, step s = .next t ∧ t.specState = State.reset ∧ t.rst = level ∧ t.turns = rest) ∧
  (∀ (s : State) (rest : List Turn), s.turns = .rst false :: rest → s.rst = false →
    step s = .next { s with turns := rest }) ∧
  (∀ s : State, s.rst = true →
    (∀ a v, s.busWrite a v = s) ∧ (∀ a, s.readValue a = 0) ∧ s.coreTurn = .next s)

/-- The invariant of the reachable states holds at reset. -/
def Obligations.ResetMeetsInvariant : Prop := State.reset.Inv

/-- R32, R194, R240, R253: every step keeps the invariant: the schedule store is empty or holds the expansion of some key with its NK
and NR; a pending command means DONE 0 and ERR 0; under reset every piece of state has its reset value. -/
def Obligations.StepKeepsInvariant : Prop :=
  ∀ s t : State, s.Inv → step s = .next t → t.Inv

/-- R23: in every state that meets the invariant, KS_VALID = 0 iff NK = 0 iff NR = 0, KS_VALID = 1 means one of the three pairs,
and the ERR field of the STATUS word is at most 4. -/
def Obligations.StatusFieldsStayLegal : Prop :=
  ∀ s : State, s.Inv →
    (s.ksValid = false ↔ s.nk = 0) ∧ (s.nk = 0 ↔ s.nr = 0) ∧
    (s.ksValid = true → (s.nk = 4 ∧ s.nr = 10) ∨ (s.nk = 6 ∧ s.nr = 12) ∨ (s.nk = 8 ∧ s.nr = 14)) ∧
    (s.readReg .status).extractLsb' 4 4 ≤ 4#4

/-- R28, R30: DOUT changes only at a completion of ENC, ENCK, DEC or DECK with ERR = 0, at ZEROIZE, and at reset; RES only at a
completion of GFMUL, GFEXP, SBOX or ISBOX with ERR = 0, at ZEROIZE, and at reset. -/
def Obligations.ResultsChangeOnlyAtTheirEvents : Prop :=
  ∀ s t : State, step s = .next t →
    (t.dout ≠ s.dout →
      s.pinNext ∨ s.completesNext .zeroize ∨
      (t.err = .success ∧
        ∃ k b, s.completesNext (.enc b) ∨ s.completesNext (.enck k b) ∨ s.completesNext (.dec b) ∨ s.completesNext (.deck k b))) ∧
    (t.res ≠ s.res →
      s.pinNext ∨ s.completesNext .zeroize ∨
      (t.err = .success ∧
        (s.completesNext .gfmul ∨ s.completesNext .gfexp ∨ s.completesNext .sbox ∨ s.completesNext .isbox)))

/-- R31: the schedule store, with KS_VALID, NK and NR, changes only at a completion of EXPKEY, ENCK or DECK with ERR = 0, at
ZEROIZE, and at reset; the host cannot write it. -/
def Obligations.ScheduleChangesOnlyAtItsEvents : Prop :=
  ∀ s t : State, step s = .next t → (t.rk ≠ s.rk ∨ t.ksValid ≠ s.ksValid ∨ t.nk ≠ s.nk ∨ t.nr ≠ s.nr) →
    s.pinNext ∨ s.completesNext .zeroize ∨
    (t.err = .success ∧ ∃ k b, s.completesNext (.expkey k) ∨ s.completesNext (.enck k b) ∨ s.completesNext (.deck k b))

/-- R25, R26, R29, R56: KEY, DIN, OPA and OPB change only by the host's write to that register while idle, at ZEROIZE, and at
reset. -/
def Obligations.InputsChangeOnlyAtTheirEvents : Prop :=
  ∀ s t : State, step s = .next t →
    (∀ j : Fin 8, t.key[j] ≠ s.key[j] →
      s.pinNext ∨ s.completesNext .zeroize ∨ ∃ v, s.writesNext (.key j) v ∧ t.key[j] = v) ∧
    (∀ j : Fin 4, t.din[j] ≠ s.din[j] →
      s.pinNext ∨ s.completesNext .zeroize ∨ ∃ v, s.writesNext (.din j) v ∧ t.din[j] = v) ∧
    (t.opa ≠ s.opa → s.pinNext ∨ s.completesNext .zeroize ∨ ∃ v, s.writesNext .opa v ∧ t.opa = v.setWidth 8) ∧
    (t.opb ≠ s.opb → s.pinNext ∨ s.completesNext .zeroize ∨ ∃ v, s.writesNext .opb v ∧ t.opb = v.setWidth 8)

/-- R35: what sets and what clears each flag: BUSY, DONE, OVR, KS_VALID and ERR. -/
def Obligations.FlagsChangeOnlyAtTheirEvents : Prop :=
  ∀ s t : State, step s = .next t →
    (s.busy = false → t.busy = true → ∃ c, s.writesNext .cmd c ∧ t.pend = some c) ∧
    (s.busy = true → t.busy = false → s.completionNext ∨ s.pinNext) ∧
    (s.done = false → t.done = true → s.completionNext) ∧
    (s.done = true → t.done = false →
      (∃ c, s.writesNext .cmd c) ∨ (∃ v, s.writesNext .status v ∧ v.getLsbD 1 = true) ∨ s.pinNext) ∧
    (s.ovr = false → t.ovr = true →
      s.rst = false ∧ s.pend ≠ none ∧ ∃ a v rest, s.turns = .busWrite a v :: rest) ∧
    (s.ovr = true → t.ovr = false →
      (∃ v, s.writesNext .status v ∧ v.getLsbD 2 = true) ∨ s.completesNext .zeroize ∨ s.pinNext) ∧
    (s.ksValid = false → t.ksValid = true →
      t.err = .success ∧ ∃ k b, s.completesNext (.expkey k) ∨ s.completesNext (.enck k b) ∨ s.completesNext (.deck k b)) ∧
    (s.ksValid = true → t.ksValid = false → s.completesNext .zeroize ∨ s.pinNext) ∧
    (t.err ≠ s.err → s.completionNext ∨ (∃ c, s.writesNext .cmd c) ∨ s.pinNext)

/-- R216: irq is DONE; it is high after every completion, with or without error, and low after an issue, after a write of 1 to bit 1 of
STATUS while idle, and after the reset pin is asserted or released (a low pin driven low is neither: log 22). -/
def Obligations.IrqFollowsDone : Prop :=
  ∀ s : State,
    s.irq = s.done ∧
    (s.completionNext → ∃ t, step s = .next t ∧ t.irq = true) ∧
    ((∃ c, s.writesNext .cmd c) → ∃ t, step s = .next t ∧ t.irq = false) ∧
    ((∃ v, s.writesNext .status v ∧ v.getLsbD 1 = true) → ∃ t, step s = .next t ∧ t.irq = false) ∧
    (s.pinNext → ∃ t, step s = .next t ∧ t.irq = false)

/-- R34, R163: the hidden State S is never observable: two states that differ only in S (and in the counter of its free values) step
alike, to states that again differ in nothing a host can see. -/
def Obligations.HiddenStateIsNeverObserved : Prop :=
  ∀ (s : State) (m : StateMatrix) (n : Nat) (t : State), step s = .next t →
    ∃ t', step { s with sMat := m, freeCount := n } = .next t' ∧ t'.visible = t.visible

/-- R60 (a), R193: whatever the host reads or writes between issue and completion, the command completes as if the host had done
nothing: the same state, but for OVR and the read data port. That the hidden S is the same too is the model's choice (log 5). -/
def Obligations.HostCannotDisturbPendingCommand : Prop :=
  ∀ (s : State) (accesses rest : List Turn), s.rst = false → s.pend ≠ none →
    (∀ x ∈ accesses, x.isBusAccess = true) →
    ∃ t u, step { s with turns := .coreStep :: rest } = .next t ∧
      Host.Core.run Sys2Proof.core (accesses.length + 1) { s with turns := accesses ++ .coreStep :: rest } = .next u ∧
      u = { t with ovr := u.ovr, readData := u.readData }

/-- R198: a pending command completes: once the host's accesses run out, the next step is its completion. -/
def Obligations.PendingCommandCompletes : Prop :=
  ∀ s : State, s.rst = false → s.pend ≠ none → (∀ x ∈ s.turns, x.isBusAccess = true) →
    ∃ t, Host.Core.run Sys2Proof.core (s.turns.length + 1) s = .next t ∧ t.pend = none ∧ t.done = true ∧ t.turns = []

/-- R52, R211: a step answers a next state, except where the next turn is a bus access narrower than 32 bits, which is refused by its
own name. -/
def Obligations.OnlyNarrowAccessIsRefused : Prop :=
  ∀ s : State,
    ((∃ a w rest, s.turns = .narrowAccess a w :: rest) → step s = .refused .narrowAccess) ∧
    ((∀ a w rest, s.turns ≠ .narrowAccess a w :: rest) → ∃ t, step s = .next t)

/-- T8, R162 through the window: with a schedule stored, the host issues ENC 16, the core completes, the host copies the ciphertext to
DIN, issues DEC 16, and the core completes; DOUT then holds the first plaintext, and the schedule is unchanged. -/
def Obligations.HostRunEncryptsAndDecryptsBack : Prop :=
  ∀ s : State, s.rst = false → s.pend = none → s.ksValid = true →
    ∃ t u,
      Host.Core.run Sys2Proof.core 2
        { s with turns := [.busWrite (regOffset .cmd) 0x00100002#32, .coreStep] } = .next t ∧
      Host.Core.run Sys2Proof.core 6
        { t with turns :=
            [.busWrite (regOffset (.din 0)) (t.readReg (.dout 0)), .busWrite (regOffset (.din 1)) (t.readReg (.dout 1)),
             .busWrite (regOffset (.din 2)) (t.readReg (.dout 2)), .busWrite (regOffset (.din 3)) (t.readReg (.dout 3)),
             .busWrite (regOffset .cmd) 0x00100003#32, .coreStep] } = .next u ∧
      u.dout = s.din ∧ u.din = t.dout ∧ u.err = .success ∧ u.rk = s.rk ∧ u.key = s.key
end

