-- ==== Sys2Proof/Laws/Bytes.lean ====
section
/-! SUPPORT. The small lemmas of bytes, words, columns and the State (Machine/Bytes.lean) and of the two block packings. -/

namespace Sys2Proof.Machine

theorem byteOf_getLsbD (w : Word) (m : Fin 4) (i : Nat) :
    (byteOf w m).getLsbD i = (decide (i < 8) && w.getLsbD (24 - 8 * m.val + i)) := by
  simp [byteOf, BitVec.getLsbD_extractLsb']

theorem wordOf_byteOf (w : Word) : wordOf (byteOf w 0) (byteOf w 1) (byteOf w 2) (byteOf w 3) = w := by
  apply BitVec.eq_of_getLsbD_eq
  intro i hi
  simp only [wordOf, BitVec.getLsbD_append, byteOf_getLsbD]
  have h : i < 8 ∨ (8 ≤ i ∧ i < 16) ∨ (16 ≤ i ∧ i < 24) ∨ (24 ≤ i ∧ i < 32) := by omega
  rcases h with h | h | h | h
  · simp [h]
  · have h1 : ¬ i < 8 := by omega
    have h2 : i - 8 < 8 := by omega
    simp [h1, h2, show 8 + (i - 8) = i by omega]
  · have h1 : ¬ i < 8 := by omega
    have h2 : ¬ i - 8 < 8 := by omega
    have h3 : i - 8 - 8 < 8 := by omega
    simp [h1, h2, h3, show 16 + (i - 8 - 8) = i by omega]
  · have h1 : ¬ i < 8 := by omega
    have h2 : ¬ i - 8 < 8 := by omega
    have h3 : ¬ i - 8 - 8 < 8 := by omega
    have h4 : i - 8 - 8 - 8 < 8 := by omega
    simp [h1, h2, h3, h4, show 24 + (i - 8 - 8 - 8) = i by omega]

@[simp] theorem matrixGet_matrixOf (f : Fin 4 → Fin 4 → Byte) (r c : Fin 4) : matrixGet (matrixOf f) r c = f r c := by
  revert r c
  simp [Fin.forall_fin_succ, matrixGet, matrixColumn, columnGet, matrixOf]

/-- A State is its sixteen bytes. -/
theorem stateMatrix_ext {m n : StateMatrix} (h : ∀ r c, matrixGet m r c = matrixGet n r c) : m = n := by
  obtain ⟨⟨a0, a1, a2, a3⟩, ⟨b0, b1, b2, b3⟩, ⟨c0, c1, c2, c3⟩, ⟨d0, d1, d2, d3⟩⟩ := m
  obtain ⟨⟨a0', a1', a2', a3'⟩, ⟨b0', b1', b2', b3'⟩, ⟨c0', c1', c2', c3'⟩, ⟨d0', d1', d2', d3'⟩⟩ := n
  simp only [Fin.forall_fin_succ, matrixGet, matrixColumn, columnGet] at h
  simp_all

@[simp] theorem matrixOf_matrixGet (m : StateMatrix) : matrixOf (matrixGet m) = m :=
  stateMatrix_ext (fun r c => by simp)

@[simp] theorem scheduleOf_getElem (w : List Word) (nr i : Nat) (h : i < 60) :
    (scheduleOf w nr)[i] = if i < 4 * (nr + 1) then w.getD i 0 else 0 := by
  simp [scheduleOf]

@[simp] theorem storeBlock_getElem (m : StateMatrix) (c : Nat) (h : c < 4) :
    (storeBlock m)[c] =
      wordOf (matrixGet m 0 ⟨c, h⟩) (matrixGet m 1 ⟨c, h⟩) (matrixGet m 2 ⟨c, h⟩) (matrixGet m 3 ⟨c, h⟩) := by
  simp [storeBlock]

/-- Loading takes byte r of word c for S[r][c]. -/
theorem matrixGet_loadBlock (b : Vector Word 4) (r c : Fin 4) : matrixGet (loadBlock b) r c = byteOf b[c] r := by
  have h1 : (r.val + 4 * c.val) / 4 = c.val := by omega
  have h2 : (⟨(r.val + 4 * c.val) % 4, by omega⟩ : Fin 4) = r := Fin.ext (by simp)
  simp only [loadBlock, matrixGet_matrixOf, blockByte, h1, h2]
  rfl

end Sys2Proof.Machine
end

