-- ==== Sys2Proof/Laws/State.lean ====
section
/-! SUPPORT. One lemma per field and per update of State: what the update leaves in the field. -/

namespace Sys2Proof.Machine

@[simp] theorem State.reset_key : State.reset.key = Vector.replicate 8 0 := rfl
@[simp] theorem State.reset_din : State.reset.din = Vector.replicate 4 0 := rfl
@[simp] theorem State.reset_dout : State.reset.dout = Vector.replicate 4 0 := rfl
@[simp] theorem State.reset_opa : State.reset.opa = 0 := rfl
@[simp] theorem State.reset_opb : State.reset.opb = 0 := rfl
@[simp] theorem State.reset_res : State.reset.res = 0 := rfl
@[simp] theorem State.reset_rk : State.reset.rk = Vector.replicate 60 0 := rfl
@[simp] theorem State.reset_done : State.reset.done = false := rfl
@[simp] theorem State.reset_ovr : State.reset.ovr = false := rfl
@[simp] theorem State.reset_ksValid : State.reset.ksValid = false := rfl
@[simp] theorem State.reset_err : State.reset.err = .success := rfl
@[simp] theorem State.reset_nk : State.reset.nk = 0 := rfl
@[simp] theorem State.reset_nr : State.reset.nr = 0 := rfl
@[simp] theorem State.reset_pend : State.reset.pend = none := rfl
@[simp] theorem State.reset_sMat : State.reset.sMat = zeroStateMatrix := rfl
@[simp] theorem State.reset_rst : State.reset.rst = false := rfl
@[simp] theorem State.reset_readData : State.reset.readData = 0 := rfl
@[simp] theorem State.reset_turns : State.reset.turns = [] := rfl
@[simp] theorem State.reset_freeCount : State.reset.freeCount = 0 := rfl

@[simp] theorem State.clearFlags_key (s : State) (v : Word) : (s.clearFlags v).key = s.key := rfl
@[simp] theorem State.clearFlags_din (s : State) (v : Word) : (s.clearFlags v).din = s.din := rfl
@[simp] theorem State.clearFlags_dout (s : State) (v : Word) : (s.clearFlags v).dout = s.dout := rfl
@[simp] theorem State.clearFlags_opa (s : State) (v : Word) : (s.clearFlags v).opa = s.opa := rfl
@[simp] theorem State.clearFlags_opb (s : State) (v : Word) : (s.clearFlags v).opb = s.opb := rfl
@[simp] theorem State.clearFlags_res (s : State) (v : Word) : (s.clearFlags v).res = s.res := rfl
@[simp] theorem State.clearFlags_rk (s : State) (v : Word) : (s.clearFlags v).rk = s.rk := rfl
@[simp] theorem State.clearFlags_done (s : State) (v : Word) : (s.clearFlags v).done = (if v.getLsbD 1 then false else s.done) := rfl
@[simp] theorem State.clearFlags_ovr (s : State) (v : Word) : (s.clearFlags v).ovr = (if v.getLsbD 2 then false else s.ovr) := rfl
@[simp] theorem State.clearFlags_ksValid (s : State) (v : Word) : (s.clearFlags v).ksValid = s.ksValid := rfl
@[simp] theorem State.clearFlags_err (s : State) (v : Word) : (s.clearFlags v).err = s.err := rfl
@[simp] theorem State.clearFlags_nk (s : State) (v : Word) : (s.clearFlags v).nk = s.nk := rfl
@[simp] theorem State.clearFlags_nr (s : State) (v : Word) : (s.clearFlags v).nr = s.nr := rfl
@[simp] theorem State.clearFlags_pend (s : State) (v : Word) : (s.clearFlags v).pend = s.pend := rfl
@[simp] theorem State.clearFlags_sMat (s : State) (v : Word) : (s.clearFlags v).sMat = s.sMat := rfl
@[simp] theorem State.clearFlags_rst (s : State) (v : Word) : (s.clearFlags v).rst = s.rst := rfl
@[simp] theorem State.clearFlags_readData (s : State) (v : Word) : (s.clearFlags v).readData = s.readData := rfl
@[simp] theorem State.clearFlags_turns (s : State) (v : Word) : (s.clearFlags v).turns = s.turns := rfl
@[simp] theorem State.clearFlags_freeCount (s : State) (v : Word) : (s.clearFlags v).freeCount = s.freeCount := rfl

@[simp] theorem State.dropWrite_key (s : State) : (s.dropWrite).key = s.key := rfl
@[simp] theorem State.dropWrite_din (s : State) : (s.dropWrite).din = s.din := rfl
@[simp] theorem State.dropWrite_dout (s : State) : (s.dropWrite).dout = s.dout := rfl
@[simp] theorem State.dropWrite_opa (s : State) : (s.dropWrite).opa = s.opa := rfl
@[simp] theorem State.dropWrite_opb (s : State) : (s.dropWrite).opb = s.opb := rfl
@[simp] theorem State.dropWrite_res (s : State) : (s.dropWrite).res = s.res := rfl
@[simp] theorem State.dropWrite_rk (s : State) : (s.dropWrite).rk = s.rk := rfl
@[simp] theorem State.dropWrite_done (s : State) : (s.dropWrite).done = s.done := rfl
@[simp] theorem State.dropWrite_ovr (s : State) : (s.dropWrite).ovr = true := rfl
@[simp] theorem State.dropWrite_ksValid (s : State) : (s.dropWrite).ksValid = s.ksValid := rfl
@[simp] theorem State.dropWrite_err (s : State) : (s.dropWrite).err = s.err := rfl
@[simp] theorem State.dropWrite_nk (s : State) : (s.dropWrite).nk = s.nk := rfl
@[simp] theorem State.dropWrite_nr (s : State) : (s.dropWrite).nr = s.nr := rfl
@[simp] theorem State.dropWrite_pend (s : State) : (s.dropWrite).pend = s.pend := rfl
@[simp] theorem State.dropWrite_sMat (s : State) : (s.dropWrite).sMat = s.sMat := rfl
@[simp] theorem State.dropWrite_rst (s : State) : (s.dropWrite).rst = s.rst := rfl
@[simp] theorem State.dropWrite_readData (s : State) : (s.dropWrite).readData = s.readData := rfl
@[simp] theorem State.dropWrite_turns (s : State) : (s.dropWrite).turns = s.turns := rfl
@[simp] theorem State.dropWrite_freeCount (s : State) : (s.dropWrite).freeCount = s.freeCount := rfl

@[simp] theorem State.busRead_key (s : State) (a : Offset) : (s.busRead a).key = s.key := rfl
@[simp] theorem State.busRead_din (s : State) (a : Offset) : (s.busRead a).din = s.din := rfl
@[simp] theorem State.busRead_dout (s : State) (a : Offset) : (s.busRead a).dout = s.dout := rfl
@[simp] theorem State.busRead_opa (s : State) (a : Offset) : (s.busRead a).opa = s.opa := rfl
@[simp] theorem State.busRead_opb (s : State) (a : Offset) : (s.busRead a).opb = s.opb := rfl
@[simp] theorem State.busRead_res (s : State) (a : Offset) : (s.busRead a).res = s.res := rfl
@[simp] theorem State.busRead_rk (s : State) (a : Offset) : (s.busRead a).rk = s.rk := rfl
@[simp] theorem State.busRead_done (s : State) (a : Offset) : (s.busRead a).done = s.done := rfl
@[simp] theorem State.busRead_ovr (s : State) (a : Offset) : (s.busRead a).ovr = s.ovr := rfl
@[simp] theorem State.busRead_ksValid (s : State) (a : Offset) : (s.busRead a).ksValid = s.ksValid := rfl
@[simp] theorem State.busRead_err (s : State) (a : Offset) : (s.busRead a).err = s.err := rfl
@[simp] theorem State.busRead_nk (s : State) (a : Offset) : (s.busRead a).nk = s.nk := rfl
@[simp] theorem State.busRead_nr (s : State) (a : Offset) : (s.busRead a).nr = s.nr := rfl
@[simp] theorem State.busRead_pend (s : State) (a : Offset) : (s.busRead a).pend = s.pend := rfl
@[simp] theorem State.busRead_sMat (s : State) (a : Offset) : (s.busRead a).sMat = s.sMat := rfl
@[simp] theorem State.busRead_rst (s : State) (a : Offset) : (s.busRead a).rst = s.rst := rfl
@[simp] theorem State.busRead_readData (s : State) (a : Offset) : (s.busRead a).readData = s.readValue a := rfl
@[simp] theorem State.busRead_turns (s : State) (a : Offset) : (s.busRead a).turns = s.turns := rfl
@[simp] theorem State.busRead_freeCount (s : State) (a : Offset) : (s.busRead a).freeCount = s.freeCount := rfl

@[simp] theorem State.issue_key (s : State) (c : Word) : (s.issue c).key = s.key := rfl
@[simp] theorem State.issue_din (s : State) (c : Word) : (s.issue c).din = s.din := rfl
@[simp] theorem State.issue_dout (s : State) (c : Word) : (s.issue c).dout = s.dout := rfl
@[simp] theorem State.issue_opa (s : State) (c : Word) : (s.issue c).opa = s.opa := rfl
@[simp] theorem State.issue_opb (s : State) (c : Word) : (s.issue c).opb = s.opb := rfl
@[simp] theorem State.issue_res (s : State) (c : Word) : (s.issue c).res = s.res := rfl
@[simp] theorem State.issue_rk (s : State) (c : Word) : (s.issue c).rk = s.rk := rfl
@[simp] theorem State.issue_done (s : State) (c : Word) : (s.issue c).done = false := rfl
@[simp] theorem State.issue_ovr (s : State) (c : Word) : (s.issue c).ovr = s.ovr := rfl
@[simp] theorem State.issue_ksValid (s : State) (c : Word) : (s.issue c).ksValid = s.ksValid := rfl
@[simp] theorem State.issue_err (s : State) (c : Word) : (s.issue c).err = .success := rfl
@[simp] theorem State.issue_nk (s : State) (c : Word) : (s.issue c).nk = s.nk := rfl
@[simp] theorem State.issue_nr (s : State) (c : Word) : (s.issue c).nr = s.nr := rfl
@[simp] theorem State.issue_pend (s : State) (c : Word) : (s.issue c).pend = some c := rfl
@[simp] theorem State.issue_sMat (s : State) (c : Word) : (s.issue c).sMat = s.sMat := rfl
@[simp] theorem State.issue_rst (s : State) (c : Word) : (s.issue c).rst = s.rst := rfl
@[simp] theorem State.issue_readData (s : State) (c : Word) : (s.issue c).readData = s.readData := rfl
@[simp] theorem State.issue_turns (s : State) (c : Word) : (s.issue c).turns = s.turns := rfl
@[simp] theorem State.issue_freeCount (s : State) (c : Word) : (s.issue c).freeCount = s.freeCount := rfl

@[simp] theorem State.complete_key (s : State) (code : ErrCode) : (s.complete code).key = s.key := rfl
@[simp] theorem State.complete_din (s : State) (code : ErrCode) : (s.complete code).din = s.din := rfl
@[simp] theorem State.complete_dout (s : State) (code : ErrCode) : (s.complete code).dout = s.dout := rfl
@[simp] theorem State.complete_opa (s : State) (code : ErrCode) : (s.complete code).opa = s.opa := rfl
@[simp] theorem State.complete_opb (s : State) (code : ErrCode) : (s.complete code).opb = s.opb := rfl
@[simp] theorem State.complete_res (s : State) (code : ErrCode) : (s.complete code).res = s.res := rfl
@[simp] theorem State.complete_rk (s : State) (code : ErrCode) : (s.complete code).rk = s.rk := rfl
@[simp] theorem State.complete_done (s : State) (code : ErrCode) : (s.complete code).done = true := rfl
@[simp] theorem State.complete_ovr (s : State) (code : ErrCode) : (s.complete code).ovr = s.ovr := rfl
@[simp] theorem State.complete_ksValid (s : State) (code : ErrCode) : (s.complete code).ksValid = s.ksValid := rfl
@[simp] theorem State.complete_err (s : State) (code : ErrCode) : (s.complete code).err = code := rfl
@[simp] theorem State.complete_nk (s : State) (code : ErrCode) : (s.complete code).nk = s.nk := rfl
@[simp] theorem State.complete_nr (s : State) (code : ErrCode) : (s.complete code).nr = s.nr := rfl
@[simp] theorem State.complete_pend (s : State) (code : ErrCode) : (s.complete code).pend = none := rfl
@[simp] theorem State.complete_sMat (s : State) (code : ErrCode) : (s.complete code).sMat = s.sMat := rfl
@[simp] theorem State.complete_rst (s : State) (code : ErrCode) : (s.complete code).rst = s.rst := rfl
@[simp] theorem State.complete_readData (s : State) (code : ErrCode) : (s.complete code).readData = s.readData := rfl
@[simp] theorem State.complete_turns (s : State) (code : ErrCode) : (s.complete code).turns = s.turns := rfl
@[simp] theorem State.complete_freeCount (s : State) (code : ErrCode) : (s.complete code).freeCount = s.freeCount := rfl

@[simp] theorem State.setRes_key (s : State) (b : Byte) : (s.setRes b).key = s.key := rfl
@[simp] theorem State.setRes_din (s : State) (b : Byte) : (s.setRes b).din = s.din := rfl
@[simp] theorem State.setRes_dout (s : State) (b : Byte) : (s.setRes b).dout = s.dout := rfl
@[simp] theorem State.setRes_opa (s : State) (b : Byte) : (s.setRes b).opa = s.opa := rfl
@[simp] theorem State.setRes_opb (s : State) (b : Byte) : (s.setRes b).opb = s.opb := rfl
@[simp] theorem State.setRes_res (s : State) (b : Byte) : (s.setRes b).res = b := rfl
@[simp] theorem State.setRes_rk (s : State) (b : Byte) : (s.setRes b).rk = s.rk := rfl
@[simp] theorem State.setRes_done (s : State) (b : Byte) : (s.setRes b).done = s.done := rfl
@[simp] theorem State.setRes_ovr (s : State) (b : Byte) : (s.setRes b).ovr = s.ovr := rfl
@[simp] theorem State.setRes_ksValid (s : State) (b : Byte) : (s.setRes b).ksValid = s.ksValid := rfl
@[simp] theorem State.setRes_err (s : State) (b : Byte) : (s.setRes b).err = s.err := rfl
@[simp] theorem State.setRes_nk (s : State) (b : Byte) : (s.setRes b).nk = s.nk := rfl
@[simp] theorem State.setRes_nr (s : State) (b : Byte) : (s.setRes b).nr = s.nr := rfl
@[simp] theorem State.setRes_pend (s : State) (b : Byte) : (s.setRes b).pend = s.pend := rfl
@[simp] theorem State.setRes_sMat (s : State) (b : Byte) : (s.setRes b).sMat = s.sMat := rfl
@[simp] theorem State.setRes_rst (s : State) (b : Byte) : (s.setRes b).rst = s.rst := rfl
@[simp] theorem State.setRes_readData (s : State) (b : Byte) : (s.setRes b).readData = s.readData := rfl
@[simp] theorem State.setRes_turns (s : State) (b : Byte) : (s.setRes b).turns = s.turns := rfl
@[simp] theorem State.setRes_freeCount (s : State) (b : Byte) : (s.setRes b).freeCount = s.freeCount := rfl

@[simp] theorem State.storeDout_key (s : State) (out : Vector Word 4) : (s.storeDout out).key = s.key := rfl
@[simp] theorem State.storeDout_din (s : State) (out : Vector Word 4) : (s.storeDout out).din = s.din := rfl
@[simp] theorem State.storeDout_dout (s : State) (out : Vector Word 4) : (s.storeDout out).dout = out := rfl
@[simp] theorem State.storeDout_opa (s : State) (out : Vector Word 4) : (s.storeDout out).opa = s.opa := rfl
@[simp] theorem State.storeDout_opb (s : State) (out : Vector Word 4) : (s.storeDout out).opb = s.opb := rfl
@[simp] theorem State.storeDout_res (s : State) (out : Vector Word 4) : (s.storeDout out).res = s.res := rfl
@[simp] theorem State.storeDout_rk (s : State) (out : Vector Word 4) : (s.storeDout out).rk = s.rk := rfl
@[simp] theorem State.storeDout_done (s : State) (out : Vector Word 4) : (s.storeDout out).done = s.done := rfl
@[simp] theorem State.storeDout_ovr (s : State) (out : Vector Word 4) : (s.storeDout out).ovr = s.ovr := rfl
@[simp] theorem State.storeDout_ksValid (s : State) (out : Vector Word 4) : (s.storeDout out).ksValid = s.ksValid := rfl
@[simp] theorem State.storeDout_err (s : State) (out : Vector Word 4) : (s.storeDout out).err = s.err := rfl
@[simp] theorem State.storeDout_nk (s : State) (out : Vector Word 4) : (s.storeDout out).nk = s.nk := rfl
@[simp] theorem State.storeDout_nr (s : State) (out : Vector Word 4) : (s.storeDout out).nr = s.nr := rfl
@[simp] theorem State.storeDout_pend (s : State) (out : Vector Word 4) : (s.storeDout out).pend = s.pend := rfl
@[simp] theorem State.storeDout_sMat (s : State) (out : Vector Word 4) : (s.storeDout out).sMat = s.sMat := rfl
@[simp] theorem State.storeDout_rst (s : State) (out : Vector Word 4) : (s.storeDout out).rst = s.rst := rfl
@[simp] theorem State.storeDout_readData (s : State) (out : Vector Word 4) : (s.storeDout out).readData = s.readData := rfl
@[simp] theorem State.storeDout_turns (s : State) (out : Vector Word 4) : (s.storeDout out).turns = s.turns := rfl
@[simp] theorem State.storeDout_freeCount (s : State) (out : Vector Word 4) : (s.storeDout out).freeCount = s.freeCount := rfl

@[simp] theorem State.storeSchedule_key (s : State) (w : List Word) (v : Variant) : (s.storeSchedule w v).key = s.key := rfl
@[simp] theorem State.storeSchedule_din (s : State) (w : List Word) (v : Variant) : (s.storeSchedule w v).din = s.din := rfl
@[simp] theorem State.storeSchedule_dout (s : State) (w : List Word) (v : Variant) : (s.storeSchedule w v).dout = s.dout := rfl
@[simp] theorem State.storeSchedule_opa (s : State) (w : List Word) (v : Variant) : (s.storeSchedule w v).opa = s.opa := rfl
@[simp] theorem State.storeSchedule_opb (s : State) (w : List Word) (v : Variant) : (s.storeSchedule w v).opb = s.opb := rfl
@[simp] theorem State.storeSchedule_res (s : State) (w : List Word) (v : Variant) : (s.storeSchedule w v).res = s.res := rfl
@[simp] theorem State.storeSchedule_rk (s : State) (w : List Word) (v : Variant) : (s.storeSchedule w v).rk = scheduleOf w (variantNr v) := rfl
@[simp] theorem State.storeSchedule_done (s : State) (w : List Word) (v : Variant) : (s.storeSchedule w v).done = s.done := rfl
@[simp] theorem State.storeSchedule_ovr (s : State) (w : List Word) (v : Variant) : (s.storeSchedule w v).ovr = s.ovr := rfl
@[simp] theorem State.storeSchedule_ksValid (s : State) (w : List Word) (v : Variant) : (s.storeSchedule w v).ksValid = true := rfl
@[simp] theorem State.storeSchedule_err (s : State) (w : List Word) (v : Variant) : (s.storeSchedule w v).err = s.err := rfl
@[simp] theorem State.storeSchedule_nk (s : State) (w : List Word) (v : Variant) : (s.storeSchedule w v).nk = BitVec.ofNat 4 (variantNk v) := rfl
@[simp] theorem State.storeSchedule_nr (s : State) (w : List Word) (v : Variant) : (s.storeSchedule w v).nr = BitVec.ofNat 4 (variantNr v) := rfl
@[simp] theorem State.storeSchedule_pend (s : State) (w : List Word) (v : Variant) : (s.storeSchedule w v).pend = s.pend := rfl
@[simp] theorem State.storeSchedule_sMat (s : State) (w : List Word) (v : Variant) : (s.storeSchedule w v).sMat = s.sMat := rfl
@[simp] theorem State.storeSchedule_rst (s : State) (w : List Word) (v : Variant) : (s.storeSchedule w v).rst = s.rst := rfl
@[simp] theorem State.storeSchedule_readData (s : State) (w : List Word) (v : Variant) : (s.storeSchedule w v).readData = s.readData := rfl
@[simp] theorem State.storeSchedule_turns (s : State) (w : List Word) (v : Variant) : (s.storeSchedule w v).turns = s.turns := rfl
@[simp] theorem State.storeSchedule_freeCount (s : State) (w : List Word) (v : Variant) : (s.storeSchedule w v).freeCount = s.freeCount := rfl

@[simp] theorem State.leaveMatrix_key (s : State) : (s.leaveMatrix).key = s.key := rfl
@[simp] theorem State.leaveMatrix_din (s : State) : (s.leaveMatrix).din = s.din := rfl
@[simp] theorem State.leaveMatrix_dout (s : State) : (s.leaveMatrix).dout = s.dout := rfl
@[simp] theorem State.leaveMatrix_opa (s : State) : (s.leaveMatrix).opa = s.opa := rfl
@[simp] theorem State.leaveMatrix_opb (s : State) : (s.leaveMatrix).opb = s.opb := rfl
@[simp] theorem State.leaveMatrix_res (s : State) : (s.leaveMatrix).res = s.res := rfl
@[simp] theorem State.leaveMatrix_rk (s : State) : (s.leaveMatrix).rk = s.rk := rfl
@[simp] theorem State.leaveMatrix_done (s : State) : (s.leaveMatrix).done = s.done := rfl
@[simp] theorem State.leaveMatrix_ovr (s : State) : (s.leaveMatrix).ovr = s.ovr := rfl
@[simp] theorem State.leaveMatrix_ksValid (s : State) : (s.leaveMatrix).ksValid = s.ksValid := rfl
@[simp] theorem State.leaveMatrix_err (s : State) : (s.leaveMatrix).err = s.err := rfl
@[simp] theorem State.leaveMatrix_nk (s : State) : (s.leaveMatrix).nk = s.nk := rfl
@[simp] theorem State.leaveMatrix_nr (s : State) : (s.leaveMatrix).nr = s.nr := rfl
@[simp] theorem State.leaveMatrix_pend (s : State) : (s.leaveMatrix).pend = s.pend := rfl
@[simp] theorem State.leaveMatrix_sMat (s : State) : (s.leaveMatrix).sMat = Config.freeStateMatrix s.freeCount := rfl
@[simp] theorem State.leaveMatrix_rst (s : State) : (s.leaveMatrix).rst = s.rst := rfl
@[simp] theorem State.leaveMatrix_readData (s : State) : (s.leaveMatrix).readData = s.readData := rfl
@[simp] theorem State.leaveMatrix_turns (s : State) : (s.leaveMatrix).turns = s.turns := rfl
@[simp] theorem State.leaveMatrix_freeCount (s : State) : (s.leaveMatrix).freeCount = s.freeCount + 1 := rfl

@[simp] theorem State.pinReset_key (s : State) (level : Bool) : (s.pinReset level).key = Vector.replicate 8 0 := rfl
@[simp] theorem State.pinReset_din (s : State) (level : Bool) : (s.pinReset level).din = Vector.replicate 4 0 := rfl
@[simp] theorem State.pinReset_dout (s : State) (level : Bool) : (s.pinReset level).dout = Vector.replicate 4 0 := rfl
@[simp] theorem State.pinReset_opa (s : State) (level : Bool) : (s.pinReset level).opa = 0 := rfl
@[simp] theorem State.pinReset_opb (s : State) (level : Bool) : (s.pinReset level).opb = 0 := rfl
@[simp] theorem State.pinReset_res (s : State) (level : Bool) : (s.pinReset level).res = 0 := rfl
@[simp] theorem State.pinReset_rk (s : State) (level : Bool) : (s.pinReset level).rk = Vector.replicate 60 0 := rfl
@[simp] theorem State.pinReset_done (s : State) (level : Bool) : (s.pinReset level).done = false := rfl
@[simp] theorem State.pinReset_ovr (s : State) (level : Bool) : (s.pinReset level).ovr = false := rfl
@[simp] theorem State.pinReset_ksValid (s : State) (level : Bool) : (s.pinReset level).ksValid = false := rfl
@[simp] theorem State.pinReset_err (s : State) (level : Bool) : (s.pinReset level).err = .success := rfl
@[simp] theorem State.pinReset_nk (s : State) (level : Bool) : (s.pinReset level).nk = 0 := rfl
@[simp] theorem State.pinReset_nr (s : State) (level : Bool) : (s.pinReset level).nr = 0 := rfl
@[simp] theorem State.pinReset_pend (s : State) (level : Bool) : (s.pinReset level).pend = none := rfl
@[simp] theorem State.pinReset_sMat (s : State) (level : Bool) : (s.pinReset level).sMat = zeroStateMatrix := rfl
@[simp] theorem State.pinReset_rst (s : State) (level : Bool) : (s.pinReset level).rst = level := rfl
@[simp] theorem State.pinReset_readData (s : State) (level : Bool) : (s.pinReset level).readData = s.readData := rfl
@[simp] theorem State.pinReset_turns (s : State) (level : Bool) : (s.pinReset level).turns = s.turns := rfl
@[simp] theorem State.pinReset_freeCount (s : State) (level : Bool) : (s.pinReset level).freeCount = s.freeCount := rfl

@[simp] theorem State.zeroized_key (s : State) : (s.zeroized).key = Vector.replicate 8 0 := rfl
@[simp] theorem State.zeroized_din (s : State) : (s.zeroized).din = Vector.replicate 4 0 := rfl
@[simp] theorem State.zeroized_dout (s : State) : (s.zeroized).dout = Vector.replicate 4 0 := rfl
@[simp] theorem State.zeroized_opa (s : State) : (s.zeroized).opa = 0 := rfl
@[simp] theorem State.zeroized_opb (s : State) : (s.zeroized).opb = 0 := rfl
@[simp] theorem State.zeroized_res (s : State) : (s.zeroized).res = 0 := rfl
@[simp] theorem State.zeroized_rk (s : State) : (s.zeroized).rk = Vector.replicate 60 0 := rfl
@[simp] theorem State.zeroized_done (s : State) : (s.zeroized).done = s.done := rfl
@[simp] theorem State.zeroized_ovr (s : State) : (s.zeroized).ovr = false := rfl
@[simp] theorem State.zeroized_ksValid (s : State) : (s.zeroized).ksValid = false := rfl
@[simp] theorem State.zeroized_err (s : State) : (s.zeroized).err = s.err := rfl
@[simp] theorem State.zeroized_nk (s : State) : (s.zeroized).nk = 0 := rfl
@[simp] theorem State.zeroized_nr (s : State) : (s.zeroized).nr = 0 := rfl
@[simp] theorem State.zeroized_pend (s : State) : (s.zeroized).pend = s.pend := rfl
@[simp] theorem State.zeroized_sMat (s : State) : (s.zeroized).sMat = zeroStateMatrix := rfl
@[simp] theorem State.zeroized_rst (s : State) : (s.zeroized).rst = s.rst := rfl
@[simp] theorem State.zeroized_readData (s : State) : (s.zeroized).readData = s.readData := rfl
@[simp] theorem State.zeroized_turns (s : State) : (s.zeroized).turns = s.turns := rfl
@[simp] theorem State.zeroized_freeCount (s : State) : (s.zeroized).freeCount = s.freeCount := rfl

@[simp] theorem State.withFetchWord_key (s : State) (nbits w : Nat) : (s.withFetchWord nbits w).key = s.key := rfl
@[simp] theorem State.withFetchWord_din (s : State) (nbits w : Nat) : (s.withFetchWord nbits w).din = s.din := rfl
@[simp] theorem State.withFetchWord_dout (s : State) (nbits w : Nat) : (s.withFetchWord nbits w).dout = s.dout := rfl
@[simp] theorem State.withFetchWord_opa (s : State) (nbits w : Nat) : (s.withFetchWord nbits w).opa = s.opa := rfl
@[simp] theorem State.withFetchWord_opb (s : State) (nbits w : Nat) : (s.withFetchWord nbits w).opb = s.opb := rfl
@[simp] theorem State.withFetchWord_res (s : State) (nbits w : Nat) : (s.withFetchWord nbits w).res = s.res := rfl
@[simp] theorem State.withFetchWord_rk (s : State) (nbits w : Nat) : (s.withFetchWord nbits w).rk = s.rk := rfl
@[simp] theorem State.withFetchWord_done (s : State) (nbits w : Nat) : (s.withFetchWord nbits w).done = s.done := rfl
@[simp] theorem State.withFetchWord_ovr (s : State) (nbits w : Nat) : (s.withFetchWord nbits w).ovr = s.ovr := rfl
@[simp] theorem State.withFetchWord_ksValid (s : State) (nbits w : Nat) : (s.withFetchWord nbits w).ksValid = s.ksValid := rfl
@[simp] theorem State.withFetchWord_err (s : State) (nbits w : Nat) : (s.withFetchWord nbits w).err = s.err := rfl
@[simp] theorem State.withFetchWord_nk (s : State) (nbits w : Nat) : (s.withFetchWord nbits w).nk = s.nk := rfl
@[simp] theorem State.withFetchWord_nr (s : State) (nbits w : Nat) : (s.withFetchWord nbits w).nr = s.nr := rfl
@[simp] theorem State.withFetchWord_pend (s : State) (nbits w : Nat) : (s.withFetchWord nbits w).pend = some (BitVec.ofNat 32 (w % 2 ^ nbits)) := rfl
@[simp] theorem State.withFetchWord_sMat (s : State) (nbits w : Nat) : (s.withFetchWord nbits w).sMat = s.sMat := rfl
@[simp] theorem State.withFetchWord_rst (s : State) (nbits w : Nat) : (s.withFetchWord nbits w).rst = false := rfl
@[simp] theorem State.withFetchWord_readData (s : State) (nbits w : Nat) : (s.withFetchWord nbits w).readData = s.readData := rfl
@[simp] theorem State.withFetchWord_turns (s : State) (nbits w : Nat) : (s.withFetchWord nbits w).turns = [] := rfl
@[simp] theorem State.withFetchWord_freeCount (s : State) (nbits w : Nat) : (s.withFetchWord nbits w).freeCount = s.freeCount := rfl

@[simp] theorem State.reportError_eq (s : State) (code : ErrCode) : s.reportError code = s.complete code := rfl

end Sys2Proof.Machine
end

