-- ==== Sys2Proof/Laws/Ops.lean ====
section
/-! SUPPORT. What each shared operation can do, said once: completion, a bus write, a turn of the core, one step. Later proofs
cite these instead of unfolding. -/

namespace Sys2Proof.Machine

@[simp] theorem completion_ok (s t : State) : completion s (.ok t) = .next (t.complete .success) := rfl

@[simp] theorem completion_error (s : State) (code : ErrCode) : completion s (.error code) = .next (s.complete code) := rfl

/-- A completion always answers a next state: the body's, or the old one with the error reported. -/
theorem completion_cases {s t : State} {body : Except ErrCode State} (h : completion s body = .next t) :
    (∃ u, body = .ok u ∧ t = u.complete .success) ∨ (∃ code, body = .error code ∧ t = s.complete code) := by
  cases body with
  | ok u => simp at h; exact .inl ⟨u, rfl, h.symm⟩
  | error code => simp at h; exact .inr ⟨code, rfl, h.symm⟩

/-- What EXPKEY's body gives. -/
theorem expkeyBody_cases (klen : Nat) (s : State) :
    (variant klen = none ∧ expkeyBody klen s = .error .invalidKeyLength) ∨
      (∃ v, variant klen = some v ∧
        expkeyBody klen s = .ok (s.storeSchedule (aesKeyExpand (keyWords s.key v) v) v)) := by
  unfold expkeyBody
  cases h : variant klen with
  | none => simp
  | some v => simp

/-- What the body of ENC and DEC gives. -/
theorem storedScheduleBody_cases (f : Vector Word 4 → Vector Word 60 → Nat → Vector Word 4) (blen : Nat) (s : State) :
    (blen ≠ 16 ∧ storedScheduleBody f blen s = .error .invalidBlockLength) ∨
      (blen = 16 ∧ s.ksValid = false ∧ storedScheduleBody f blen s = .error .noSchedule) ∨
      (blen = 16 ∧ s.ksValid = true ∧
        storedScheduleBody f blen s = .ok ((s.storeDout (f s.din s.rk s.nr.toNat)).leaveMatrix)) := by
  unfold storedScheduleBody
  by_cases hb : blen = 16 <;> cases hk : s.ksValid <;> simp [hb]

/-- What the body of ENCK and DECK gives. -/
theorem facadeBody_cases (f : Vector Word 4 → Vector Word 60 → Nat → Vector Word 4) (klen blen : Nat) (s : State) :
    (variant klen = none ∧ facadeBody f klen blen s = .error .invalidKeyLength) ∨
      (∃ v, variant klen = some v ∧ blen ≠ 16 ∧ facadeBody f klen blen s = .error .invalidBlockLength) ∨
      (∃ v, variant klen = some v ∧ blen = 16 ∧
        facadeBody f klen blen s =
          .ok (((s.storeSchedule (aesKeyExpand (keyWords s.key v) v) v).storeDout
            (f s.din (scheduleOf (aesKeyExpand (keyWords s.key v) v) (variantNr v)) (variantNr v))).leaveMatrix)) := by
  unfold facadeBody
  cases h : variant klen with
  | none => simp
  | some v => by_cases hb : blen = 16 <;> simp [hb]

theorem exec_nop (s : State) : exec .nop s = completion s (.ok s) := rfl

theorem exec_expkey (klen : Nat) (s : State) : exec (.expkey klen) s = completion s (expkeyBody klen s) := rfl

theorem exec_enc (blen : Nat) (s : State) : exec (.enc blen) s = completion s (storedScheduleBody cipher blen s) := rfl

theorem exec_enck (klen blen : Nat) (s : State) :
    exec (.enck klen blen) s = completion s (facadeBody cipher klen blen s) := rfl

theorem exec_dec (blen : Nat) (s : State) : exec (.dec blen) s = completion s (storedScheduleBody invCipher blen s) := rfl

theorem exec_deck (klen blen : Nat) (s : State) :
    exec (.deck klen blen) s = completion s (facadeBody invCipher klen blen s) := rfl

theorem exec_gfmul (s : State) : exec .gfmul s = completion s (.ok (s.setRes (gf28Mult s.opa s.opb))) := rfl

theorem exec_gfexp (s : State) : exec .gfexp s = completion s (.ok (s.setRes (gf28Exp s.opa s.opb))) := rfl

theorem exec_sbox (s : State) : exec .sbox s = completion s (.ok (s.setRes (sBox s.opa))) := rfl

theorem exec_isbox (s : State) : exec .isbox s = completion s (.ok (s.setRes (sBoxInv s.opa))) := rfl

theorem exec_zeroize (s : State) : exec .zeroize s = completion s (.ok s.zeroized) := rfl

/-- Every command's meaning is a completion around some body. -/
theorem exec_is_completion (i : Instr) (s : State) : ∃ body, exec i s = completion s body := by
  cases i with
  | nop => exact ⟨_, exec_nop s⟩
  | expkey klen => exact ⟨_, exec_expkey klen s⟩
  | enc blen => exact ⟨_, exec_enc blen s⟩
  | enck klen blen => exact ⟨_, exec_enck klen blen s⟩
  | dec blen => exact ⟨_, exec_dec blen s⟩
  | deck klen blen => exact ⟨_, exec_deck klen blen s⟩
  | gfmul => exact ⟨_, exec_gfmul s⟩
  | gfexp => exact ⟨_, exec_gfexp s⟩
  | sbox => exact ⟨_, exec_sbox s⟩
  | isbox => exact ⟨_, exec_isbox s⟩
  | zeroize => exact ⟨_, exec_zeroize s⟩

/-- Every command's meaning answers a next state. -/
theorem exec_next (i : Instr) (s : State) : ∃ t, exec i s = .next t := by
  obtain ⟨body, h⟩ := exec_is_completion i s
  rw [h]
  cases body with
  | ok u => exact ⟨_, rfl⟩
  | error code => exact ⟨_, rfl⟩

/-- What a bus write does: nothing under reset, OVR while busy, nothing at an unmapped offset, else the register's write. -/
theorem busWrite_cases (s : State) (a : Offset) (v : Word) :
    (s.rst = true ∧ s.busWrite a v = s) ∨
      (s.rst = false ∧ s.pend ≠ none ∧ s.busWrite a v = s.dropWrite) ∨
      (s.rst = false ∧ s.pend = none ∧ regAt a = none ∧ s.busWrite a v = s) ∨
      (∃ r, s.rst = false ∧ s.pend = none ∧ regAt a = some r ∧ s.busWrite a v = s.writeReg r v) := by
  unfold State.busWrite State.busy
  cases hr : s.rst <;> cases hp : s.pend <;> cases ha : regAt a <;> simp

/-- What driving the pin does: a reset where it is asserted or released, nothing where a low pin is driven low. -/
theorem drivePin_cases (s : State) (level : Bool) :
    (s.isResetEvent level = true ∧ s.drivePin level = s.pinReset level) ∨
      (level = false ∧ s.rst = false ∧ s.drivePin level = s) := by
  cases level <;> cases h : s.rst <;> simp [State.drivePin, State.isResetEvent, h]

/-- Asserting the pin always resets. -/
@[simp] theorem drivePin_high (s : State) : s.drivePin true = s.pinReset true := rfl

/-- The turns to come do not decide what is a reset event. -/
@[simp] theorem isResetEvent_turns (s : State) (rest : List Turn) (level : Bool) :
    ({ s with turns := rest } : State).isResetEvent level = s.isResetEvent level := rfl

/-- What a turn of the core does: nothing where no completion is enabled, else the command's or the ILLEGAL word's completion. -/
theorem coreTurn_cases {s t : State} (h : s.coreTurn = .next t) :
    ((s.rst = true ∨ s.pend = none) ∧ t = s) ∨
      (∃ c i, s.rst = false ∧ s.pend = some c ∧ decode c = some i ∧ exec i s = .next t) ∨
      (∃ c, s.rst = false ∧ s.pend = some c ∧ decode c = none ∧ t = s.complete .illegalCommand) := by
  unfold State.coreTurn at h
  cases hr : s.rst with
  | true => simp [hr] at h; exact .inl ⟨.inl rfl, h.symm⟩
  | false =>
    cases hp : s.pend with
    | none => simp [hr, hp] at h; exact .inl ⟨.inr rfl, h.symm⟩
    | some c =>
      cases hd : decode c with
      | none => simp [hr, hp, hd, completeIllegal] at h; exact .inr (.inr ⟨c, rfl, rfl, hd, h.symm⟩)
      | some i => simp [hr, hp, hd] at h; exact .inr (.inl ⟨c, i, rfl, rfl, hd, h⟩)

/-- A turn of the core always answers a next state. -/
theorem coreTurn_next (s : State) : ∃ t, s.coreTurn = .next t := by
  unfold State.coreTurn
  split
  · exact ⟨_, rfl⟩
  · split
    · exact ⟨_, rfl⟩
    · split
      · exact exec_next _ _
      · exact ⟨_, rfl⟩

theorem step_of_no_turn {s : State} (h : s.turns = []) : step s = s.coreTurn := by
  simp [step, State.nextTurn, h]

theorem step_of_turn {s : State} {t : Turn} {rest : List Turn} (h : s.turns = t :: rest) :
    step s = ({ s with turns := rest } : State).takeTurn t := by
  simp [step, State.nextTurn, h]

/-- Everything a step that answers a next state can be. -/
theorem step_cases {s t : State} (h : step s = .next t) :
    (∃ a rest, s.turns = .busRead a :: rest ∧ t = ({ s with turns := rest } : State).busRead a) ∨
      (∃ a v rest, s.turns = .busWrite a v :: rest ∧ t = ({ s with turns := rest } : State).busWrite a v) ∨
      (∃ level rest, s.turns = .rst level :: rest ∧ t = ({ s with turns := rest } : State).drivePin level) ∨
      (∃ rest, s.turns = .coreStep :: rest ∧ ({ s with turns := rest } : State).coreTurn = .next t) ∨
      (s.turns = [] ∧ s.coreTurn = .next t) := by
  cases ht : s.turns with
  | nil => rw [step_of_no_turn ht] at h; exact .inr (.inr (.inr (.inr ⟨rfl, h⟩)))
  | cons x rest =>
    rw [step_of_turn ht] at h
    cases x with
    | busRead a => simp [State.takeTurn] at h; exact .inl ⟨a, rest, rfl, h.symm⟩
    | busWrite a v => simp [State.takeTurn] at h; exact .inr (.inl ⟨a, v, rest, rfl, h.symm⟩)
    | narrowAccess a w => simp [State.takeTurn] at h
    | coreStep => exact .inr (.inr (.inr (.inl ⟨rest, rfl, h⟩)))
    | rst level => simp [State.takeTurn] at h; exact .inr (.inr (.inl ⟨level, rest, rfl, h.symm⟩))

/-- Whatever AES_BASE is, the platform address AES_BASE + o reaches offset o of the window (R50, R53). -/
theorem windowOffset_of_offset (o : Offset) : windowOffset (Config.aesBase + o.toNat) = some o := by
  have := o.isLt
  simp [windowOffset]
  omega

/-- No address outside the window reaches it (R53). -/
theorem windowOffset_outside {addr : Nat} (h : addr < Config.aesBase ∨ Config.aesBase + 4096 ≤ addr) :
    windowOffset addr = none := by
  simp [windowOffset]
  omega

theorem run_zero (s : State) : Host.Core.run Sys2Proof.core 0 s = .next s := rfl

/-- A run whose first step answers `t` is the rest of the run from `t`. -/
theorem run_next {s t : State} (k : Nat) (h : step s = .next t) :
    Host.Core.run Sys2Proof.core (k + 1) s = Host.Core.run Sys2Proof.core k t := by
  have h' : Host.Core.step Sys2Proof.core s = .next t := h
  simp only [Host.Core.run, h']

end Sys2Proof.Machine
end

