-- ==== Sys2Proof/Laws/PerInstr.lean ====
section
/-! SUPPORT. A statement about every command as syntax, one lemma per constructor: the word of a well-formed command has every
reserved bit 0 (R70: "must be 0"; R71). -/

namespace Sys2Proof.Laws.ReservedBitsZero

open Sys2Proof

/-- The reserved bits of the command's word are 0. -/
def Statement (i : Instr) : Prop := i.wellFormed = true → rsvField (encode i) = 0

theorem fits_iff {n : Nat} : lengthFits n = true ↔ n < 64 := by simp [lengthFits]

theorem nop : Statement .nop := fun _ => by decide

theorem expkey (klen : Nat) : Statement (.expkey klen) := fun h => by
  have hk : klen < 64 := fits_iff.mp h
  interval_cases klen <;> decide

theorem enc (blen : Nat) : Statement (.enc blen) := fun h => by
  have hb : blen < 64 := fits_iff.mp h
  interval_cases blen <;> decide

/-- The reserved bits of a facade command's word, from those of its two length fields. -/
theorem rsv_or (a b c : Word) : rsvField (a ||| b ||| c) = rsvField a ||| rsvField b ||| rsvField c := by
  apply BitVec.eq_of_getLsbD_eq
  intro i hi
  simp only [rsvField, BitVec.getLsbD_append, BitVec.getLsbD_or, BitVec.getLsbD_extractLsb']
  split
  · simp_all [Bool.and_or_distrib_left]
  · split <;> simp_all [Bool.and_or_distrib_left]

theorem klen_rsv {klen : Nat} (h : klen < 64) : rsvField (klenBits klen) = 0 := by
  interval_cases klen <;> decide

theorem blen_rsv {blen : Nat} (h : blen < 64) : rsvField (blenBits blen) = 0 := by
  interval_cases blen <;> decide

theorem enck (klen blen : Nat) : Statement (.enck klen blen) := fun h => by
  obtain ⟨hk, hb⟩ : klen < 64 ∧ blen < 64 := by simpa [Instr.wellFormed, lengthFits] using h
  rw [encode, rsv_or, klen_rsv hk, blen_rsv hb]
  decide

theorem dec (blen : Nat) : Statement (.dec blen) := fun h => by
  have hb : blen < 64 := fits_iff.mp h
  interval_cases blen <;> decide

theorem deck (klen blen : Nat) : Statement (.deck klen blen) := fun h => by
  obtain ⟨hk, hb⟩ : klen < 64 ∧ blen < 64 := by simpa [Instr.wellFormed, lengthFits] using h
  rw [encode, rsv_or, klen_rsv hk, blen_rsv hb]
  decide

theorem gfmul : Statement .gfmul := fun _ => by decide

theorem gfexp : Statement .gfexp := fun _ => by decide

theorem sbox : Statement .sbox := fun _ => by decide

theorem isbox : Statement .isbox := fun _ => by decide

theorem zeroize : Statement .zeroize := fun _ => by decide

end Sys2Proof.Laws.ReservedBitsZero
end

