-- ==== Sys2Proof/Tests/Slice0.lean ====
section
/-! SUPPORT. The model's own tests. Expected values come from the spec: each test names its rule or vector. After the tests, a
witness for the hypotheses of every obligation that has some. -/

set_option Elab.async false

namespace Sys2Proof.Tests

open Sys2Proof Sys2Proof.Machine

/-! ## Small states -/

/-- Reset, with the key 00 01 .. 1F in KEY0..7 and the block 00 11 .. FF in DIN (T1 to T3). -/
def loaded : State :=
  { State.reset with
    key := #v[0x00010203, 0x04050607, 0x08090A0B, 0x0C0D0E0F, 0x10111213, 0x14151617, 0x18191A1B, 0x1C1D1E1F]
    din := #v[0x00112233, 0x44556677, 0x8899AABB, 0xCCDDEEFF] }

/-- The schedule of the 128-bit key of T1, stored; DONE is 1. -/
def scheduled : State := (loaded.storeSchedule (aesKeyExpand (keyWords loaded.key .aes128) .aes128) .aes128).complete .success

/-- A state with a command word pending. -/
def busyWith (c : Word) : State := scheduled.issue c

/-- A state whose next turns are given. -/
def facing (s : State) (turns : List Turn) : State := { s with turns := turns }

/-- The state a result holds; reset where it holds none. -/
def stateOf (r : Result) : State :=
  match r with
  | .next t => t
  | .fault _ => State.reset
  | .refused _ => State.reset

/-! ## Well-formedness: each check refuses an ill-formed command (R75, R77) -/

theorem test_expkey_64_ill_formed : (Instr.expkey 64).wellFormed = false := by decide
theorem test_enc_64_ill_formed : (Instr.enc 64).wellFormed = false := by decide
theorem test_enck_64_0_ill_formed : (Instr.enck 64 0).wellFormed = false := by decide
theorem test_enck_0_64_ill_formed : (Instr.enck 0 64).wellFormed = false := by decide
theorem test_dec_64_ill_formed : (Instr.dec 64).wellFormed = false := by decide
theorem test_deck_64_0_ill_formed : (Instr.deck 64 0).wellFormed = false := by decide
theorem test_deck_0_64_ill_formed : (Instr.deck 0 64).wellFormed = false := by decide

/-! ## Decoding: one word per row, written out field by field from R70: [31:22] ++ BLEN ++ [15:14] ++ KLEN ++ K ++ [6:4] ++ OP -/

theorem test_decode_nop : decode (0b0000000000#10 ++ 0b000000#6 ++ 0b00#2 ++ 0b000000#6 ++ 0b0#1 ++ 0b000#3 ++ 0b0000#4) =
    some .nop := by decide
theorem test_decode_expkey : decode (0b0000000000#10 ++ 0b000000#6 ++ 0b00#2 ++ 0b100001#6 ++ 0b0#1 ++ 0b000#3 ++ 0b0001#4) =
    some (.expkey 33) := by decide
theorem test_decode_enc : decode (0b0000000000#10 ++ 0b110001#6 ++ 0b00#2 ++ 0b000000#6 ++ 0b0#1 ++ 0b000#3 ++ 0b0010#4) =
    some (.enc 49) := by decide
theorem test_decode_enck : decode (0b0000000000#10 ++ 0b010000#6 ++ 0b00#2 ++ 0b011000#6 ++ 0b1#1 ++ 0b000#3 ++ 0b0010#4) =
    some (.enck 24 16) := by decide
theorem test_decode_dec : decode (0b0000000000#10 ++ 0b001000#6 ++ 0b00#2 ++ 0b000000#6 ++ 0b0#1 ++ 0b000#3 ++ 0b0011#4) =
    some (.dec 8) := by decide
theorem test_decode_deck : decode (0b0000000000#10 ++ 0b000001#6 ++ 0b00#2 ++ 0b100000#6 ++ 0b1#1 ++ 0b000#3 ++ 0b0011#4) =
    some (.deck 32 1) := by decide
theorem test_decode_gfmul : decode (0b0000000000#10 ++ 0b000000#6 ++ 0b00#2 ++ 0b000000#6 ++ 0b0#1 ++ 0b000#3 ++ 0b0100#4) =
    some .gfmul := by decide
theorem test_decode_gfexp : decode (0b0000000000#10 ++ 0b000000#6 ++ 0b00#2 ++ 0b000000#6 ++ 0b0#1 ++ 0b000#3 ++ 0b0101#4) =
    some .gfexp := by decide
theorem test_decode_sbox : decode (0b0000000000#10 ++ 0b000000#6 ++ 0b00#2 ++ 0b000000#6 ++ 0b0#1 ++ 0b000#3 ++ 0b0110#4) =
    some .sbox := by decide
theorem test_decode_isbox : decode (0b0000000000#10 ++ 0b000000#6 ++ 0b00#2 ++ 0b000000#6 ++ 0b0#1 ++ 0b000#3 ++ 0b0111#4) =
    some .isbox := by decide
theorem test_decode_zeroize : decode (0b0000000000#10 ++ 0b000000#6 ++ 0b00#2 ++ 0b000000#6 ++ 0b0#1 ++ 0b000#3 ++ 0b1000#4) =
    some .zeroize := by decide

/-- T22's ILLEGAL words, with the clause of R74 each stands for. -/
theorem test_decode_illegal :
    [0x00000009#32, 0x0000000F#32, 0x00000012#32, 0x00000040#32, 0x00004001#32, 0x00400002#32, 0x80000001#32, 0x00000084#32,
      0x00000088#32, 0x00001002#32, 0x00101001#32, 0x00000100#32, 0x00010000#32, 0x00001004#32, 0xFFFFFFFF#32].all
      (fun c => decode c == none) = true := by decide

/-- R80's words. -/
theorem test_encode_pseudo :
    [Instr.encPseudo, .decPseudo, .enckPseudo 24, .deckPseudo 24, .expkey128, .expkey192, .expkey256, .enck128, .enck192,
      .enck256, .deck128, .deck192, .deck256].map encode =
    [0x00100002#32, 0x00100003#32, 0x00101882#32, 0x00101883#32, 0x00001001#32, 0x00001801#32, 0x00002001#32, 0x00101082#32,
      0x00101882#32, 0x00102082#32, 0x00101083#32, 0x00101883#32, 0x00102083#32] := by decide

/-- R79's spellings. -/
theorem test_print_deck : printWord 0x00101883#32 = "DECK 24, 16" := by decide +kernel
theorem test_print_illegal : printWord 0x8000000F#32 = ".word 0x8000000F" := by decide +kernel

/-! ## The commands, on one completion each -/

/-- R195's example. -/
theorem test_nop_clears_err : (stateOf (exec .nop { scheduled with err := .invalidKeyLength })).statusWord = 0x0000A40A#32 := by
  decide +kernel

/-- R140's example and T13. -/
theorem test_expkey_128 : (stateOf (exec (.expkey 16) loaded)).statusWord = 0x0000A40A#32 ∧
    (stateOf (exec (.expkey 16) loaded)).rk[7] = 0xD6AB76FE#32 ∧
    (stateOf (exec (.expkey 16) loaded)).rk[43] = 0x4D2B30C5#32 := by decide +kernel

/-- T15, at i = 12 (the 256-bit special case) and at the last word. -/
theorem test_expkey_256 : (stateOf (exec (.expkey 32) loaded)).rk[12] = 0x1651A8CD#32 ∧
    (stateOf (exec (.expkey 32) loaded)).rk[59] = 0x6D68DE36#32 := by decide +kernel

/-- T1. -/
theorem test_enc_128 : (stateOf (exec (.enc 16) scheduled)).dout = #v[0x69C4E0D8, 0x6A7B0430, 0xD8CDB780, 0x70B4C55A] := by
  decide +kernel

/-- T22: the block check comes before NO_SCHEDULE. -/
theorem test_enc_0_without_schedule : (stateOf (exec (.enc 0) loaded)).statusWord = 0x00000022#32 := by decide +kernel

/-- T3. -/
theorem test_enck_256 : (stateOf (exec (.enck 32 16) loaded)).dout = #v[0x8EA2B7CA, 0x516745BF, 0xEAFC4990, 0x4B496089] := by
  decide +kernel

/-- P3, step 7. -/
theorem test_enck_20_8 : (stateOf (exec (.enck 20 8) scheduled)).statusWord = 0x0000A41A#32 := by decide +kernel

/-- T21: DEC of the zero block under the zero key. -/
theorem test_dec_zero : (stateOf (exec (.dec 16) (stateOf (exec (.expkey 16) State.reset)))).dout =
    #v[0x140F0F10, 0x11B5223D, 0x79587717, 0xFFD9EC3A] := by decide +kernel

/-- R212. -/
theorem test_dec_16_without_schedule : (stateOf (exec (.dec 16) loaded)).statusWord = 0x00000042#32 := by decide +kernel

/-- T2, P7. -/
theorem test_deck_192 : (stateOf (exec (.deck 24 16)
    { loaded with din := #v[0xDDA97CA4, 0x864CDFE0, 0x6EAF70A0, 0xEC0D7191] })).dout =
    #v[0x00112233, 0x44556677, 0x8899AABB, 0xCCDDEEFF] := by decide +kernel

/-- T22. -/
theorem test_deck_0_16 : (stateOf (exec (.deck 0 16) loaded)).statusWord = 0x00000012#32 := by decide +kernel

/-- T10. -/
theorem test_gfmul : (stateOf (exec .gfmul { loaded with opa := 0x57, opb := 0x83 })).res = 0xC1#8 := by decide +kernel
theorem test_gfmul_reduces : (stateOf (exec .gfmul { loaded with opa := 0xFF, opb := 0xFF })).res = 0x13#8 := by decide +kernel

/-- T11. -/
theorem test_gfexp_zero_to_zero : (stateOf (exec .gfexp loaded)).res = 0x01#8 := by decide +kernel
theorem test_gfexp : (stateOf (exec .gfexp { loaded with opa := 0x03, opb := 0x10 })).res = 0x5F#8 := by decide +kernel

/-- T12. -/
theorem test_sbox : (stateOf (exec .sbox { loaded with opa := 0x53 })).res = 0xED#8 := by decide +kernel
theorem test_sbox_last : (stateOf (exec .sbox { loaded with opa := 0xFF })).res = 0x16#8 := by decide +kernel
theorem test_isbox : (stateOf (exec .isbox { loaded with opa := 0xED })).res = 0x53#8 := by decide +kernel
theorem test_isbox_zero : (stateOf (exec .isbox loaded)).res = 0x52#8 := by decide +kernel

/-- R196's example. -/
theorem test_zeroize : (stateOf (exec .zeroize scheduled)).statusWord = 0x00000002#32 ∧
    (stateOf (exec .zeroize scheduled)).rk[0] = 0 ∧ (stateOf (exec .zeroize scheduled)).key[0] = 0 := by decide +kernel

/-- R197's example, on a stored schedule (P3, step 8). -/
theorem test_illegal : (stateOf (busyWith 0x0000000F#32).coreTurn).statusWord = 0x0000A43A#32 := by decide +kernel

/-! ## The functions (T5, T10, T16 to T18) -/

theorem test_xtime : (xtime 0x57, xtime 0x80) = (0xAE#8, 0x1B#8) := by decide
theorem test_affine : (affine 0x00, invAffine 0x63) = (0x63#8, 0x00#8) := by decide
theorem test_rotWord : rotWord 0x0C0D0E0F = 0x0D0E0F0C#32 := by decide +kernel
theorem test_subWord : subWord 0x0D0E0F0C = 0xD7AB76FE#32 := by decide +kernel
theorem test_rcon : (List.range' 1 10).map rcon =
    [0x01000000#32, 0x02000000#32, 0x04000000#32, 0x08000000#32, 0x10000000#32, 0x20000000#32, 0x40000000#32, 0x80000000#32,
      0x1B000000#32, 0x36000000#32] := by decide +kernel

/-- T5: round key 6 of the key 5468617473206D79204B756E67204675. -/
theorem test_round_key_6 : ((aesKeyExpand [0x54686174, 0x73206D79, 0x204B756E, 0x67204675] .aes128).drop 24).take 4 =
    [0xBD3DC287#32, 0xB87C4715#32, 0x6A6C9527#32, 0xAC2E0E4E#32] := by decide +kernel

theorem test_mixColumn : mixColumn ⟨0xDB, 0x13, 0x53, 0x45⟩ = ⟨0x8E, 0x4D, 0xA1, 0xBC⟩ := by decide +kernel
theorem test_invMixColumn : invMixColumn ⟨0xD5, 0xD5, 0xD7, 0xD6⟩ = ⟨0xD4, 0xD4, 0xD4, 0xD5⟩ := by decide +kernel
theorem test_shiftRows : storeBlock (shiftRows (loadBlock #v[0x00010203, 0x04050607, 0x08090A0B, 0x0C0D0E0F])) =
    #v[0x00050A0F, 0x04090E03, 0x080D0207, 0x0C01060B] := by decide +kernel
theorem test_invShiftRows : storeBlock (invShiftRows (loadBlock #v[0x00010203, 0x04050607, 0x08090A0B, 0x0C0D0E0F])) =
    #v[0x000D0A07, 0x04010E0B, 0x0805020F, 0x0C090603] := by decide +kernel

/-! ## The window and the lifecycle (T23, P5) -/

theorem test_read_id : State.reset.readValue 0x008 = 0x41455307#32 := by decide +kernel
theorem test_read_unmapped : (scheduled.readValue 0x05C, scheduled.readValue 0x1F0, scheduled.readValue 0x000) =
    (0#32, 0#32, 0#32) := by decide +kernel
theorem test_read_rk : scheduled.readValue 0x1AC = 0x4D2B30C5#32 := by decide +kernel
theorem test_write_opa : (State.reset.busWrite 0x050 0x000001FF).readValue 0x050 = 0x000000FF#32 := by decide +kernel
theorem test_write_misaligned : (State.reset.busWrite 0x013 0xDEADBEEF).key[0] = 0xDEADBEEF#32 := by decide +kernel
theorem test_write_dout_ignored : scheduled.busWrite 0x040 0xDEADBEEF = scheduled := by rfl
theorem test_write_while_busy : ((busyWith 0x00101082#32).busWrite 0x030 0xDEADBEEF).statusWord = 0x0000A40D#32 ∧
    ((busyWith 0x00101082#32).busWrite 0x030 0xDEADBEEF).din[0] = 0x00112233#32 := by decide +kernel
theorem test_issue_status : (busyWith 0x00101082#32).statusWord = 0x0000A409#32 := by decide +kernel
theorem test_w1c : (({ scheduled with ovr := true } : State).busWrite 0x004 0x00000006).statusWord = 0x0000A408#32 := by
  decide +kernel
theorem test_pin_aborts : (stateOf (step (facing (busyWith 0x00101082#32) [.rst true]))).statusWord = 0#32 := by decide +kernel

/-- Log 22: a low pin driven low is no reset, so the command stays pending. -/
theorem test_pin_low_stays : (stateOf (step (facing (busyWith 0x00101082#32) [.rst false]))).pend = some 0x00101082#32 := by
  decide +kernel

/-- The word that the host places is what the next step completes (log 4). -/
theorem test_fetch_word : step (State.reset.withFetchWord 32 0x00000005) = exec .gfexp (State.reset.withFetchWord 32 0x00000005) :=
  rfl

/-! ## Witnesses: for every obligation with hypotheses, a state and operands that meet them; where it has clauses, one for each -/

theorem witness_DecodeOfEncode : (Instr.enck 63 63).wellFormed = true := by decide

theorem witness_EncodeOfDecode : decode 0x003F3F82#32 = some (.enck 63 63) := by decide

theorem witness_IllegalWordsAreTheListedSix : decode 0x00004001#32 = none ∧
    (busyWith 0x00004001#32).rst = false ∧ (busyWith 0x00004001#32).turns = [] ∧
    (busyWith 0x00004001#32).pend = some 0x00004001#32 ∧
    (facing (busyWith 0x00004001#32) [.coreStep]).turns = [.coreStep] := ⟨by decide, rfl, rfl, rfl, rfl⟩

theorem witness_WindowMapIsTheTable :
    [0x00C#12, 0x05C#12, 0x0FF#12, 0x1F0#12, 0xFFF#12].all (fun a => regAt a == none) = true ∧
    regAt 0x058#12 = some .res ∧ regAt 0x00B#12 = some .id ∧ regAt 0x100#12 = some (.rk 0) ∧
    regAt 0x1EF#12 = some (.rk 59) := by decide

theorem witness_UnmappedAndReadOnlyTargets : scheduled.rst = false ∧ scheduled.pend = none ∧ regAt 0x00C#12 = none ∧
    (busyWith 0).rst = false ∧ (busyWith 0).pend ≠ none ∧ regAt 0x1F0#12 ≠ some .cmd := by decide +kernel

theorem witness_StatusWriteClearsDoneAndOvr :
    ((facing scheduled [.busWrite 0x007 6]).rst = false ∧ regAt 0x007#12 = some .status ∧
      (facing scheduled [.busWrite 0x007 6]).turns = [.busWrite 0x007 6] ∧ (facing scheduled [.busWrite 0x007 6]).pend = none) ∧
    ((facing (busyWith 0) [.busWrite 0x004 6]).rst = false ∧ (facing (busyWith 0) [.busWrite 0x004 6]).pend ≠ none) := by
  decide +kernel

theorem witness_DataWriteChangesOneRegister : scheduled.rst = false ∧ scheduled.pend = none ∧ ∃ j, Reg.key 7 = .key j :=
  ⟨rfl, rfl, 7, rfl⟩

theorem witness_CmdWriteIssues :
    ((facing scheduled [.busWrite 0x003 0xF]).rst = false ∧ regAt 0x003#12 = some .cmd ∧
      (facing scheduled [.busWrite 0x003 0xF]).turns = [.busWrite 0x003 0xF] ∧
      (facing scheduled [.busWrite 0x003 0xF]).pend = none) ∧
    (facing (busyWith 0) [.busWrite 0x000 8]).pend ≠ none := by decide +kernel

theorem witness_WriteWhileBusyOnlySetsOvr : (facing (busyWith 0) [.busWrite 0xFFC 1]).rst = false ∧
    (facing (busyWith 0) [.busWrite 0xFFC 1]).pend ≠ none ∧
    (facing (busyWith 0) [.busWrite 0xFFC 1]).turns = [.busWrite 0xFFC 1] := by decide +kernel

/-- A busy state with a schedule stored meets the invariant. -/
theorem busyWith_inv (c : Word) : (busyWith c).Inv := by
  refine ⟨.inr ⟨.aes128, rfl, rfl, rfl, keyWords loaded.key .aes128, ?_, rfl⟩, fun _ => ⟨rfl, rfl⟩, fun h => ?_⟩
  · simp [keyWords, variantNk]
  · exact absurd h (show ¬ false = true by decide)

theorem witness_ReadHasNoSideEffect : (facing (busyWith 0) [.busRead 0x004]).rst = false ∧
    (facing (busyWith 0) [.busRead 0x004]).turns = [.busRead 0x004] ∧
    (facing (busyWith 0) [.busRead 0x004]).Inv ∧ (facing (busyWith 0) [.busRead 0x004]).pend ≠ none :=
  ⟨rfl, rfl, busyWith_inv 0, by decide +kernel⟩

theorem witness_StepCompletesTheDecodedCommand : (busyWith 4).rst = false ∧ (busyWith 4).pend = some 4 ∧
    decode 4#32 = some .gfmul ∧ (busyWith 4).turns = [] ∧ (facing (busyWith 4) [.coreStep]).turns = [.coreStep] :=
  ⟨rfl, rfl, by decide, rfl, rfl⟩

theorem witness_EveryCompletionEndsIdleAndDone : (busyWith 0xF).completionNext := ⟨rfl, .inl rfl, by decide +kernel⟩

theorem witness_FailedCommandWritesOnlyStatus : (busyWith 0xF).rst = false ∧ (busyWith 0xF).pend ≠ none ∧
    ∃ t, (busyWith 0xF).coreTurn = .next t ∧ t.err ≠ .success :=
  ⟨rfl, by decide +kernel, (busyWith 0xF).complete .illegalCommand, rfl, by decide⟩

theorem witness_NopWritesOnlyStatus : opField 0x00010000#32 = 0 ∧ 0x00010000#32 ≠ 0#32 := by decide

theorem witness_GfmulWritesProduct : opField 0x00001004#32 = 4 ∧ 0x00001004#32 ≠ 4#32 := by decide

theorem witness_GfexpWritesPower : (1#8 : Byte) ≠ 0 ∧ (255#8 : Byte) ≠ 0 := by decide

theorem witness_ExpkeyStoresSchedule : variant 24 = some .aes192 ∧ variant 0 = none := by decide

theorem witness_EncEncryptsWithStoredSchedule : (15 : Nat) ≠ 16 ∧ loaded.ksValid = false ∧ scheduled.ksValid = true := by
  decide +kernel

theorem witness_DecDecryptsWithStoredSchedule : (17 : Nat) ≠ 16 ∧ loaded.ksValid = false ∧ scheduled.ksValid = true := by
  decide +kernel

theorem witness_EnckExpandsThenEncrypts : variant 33 = none ∧ variant 16 = some .aes128 ∧ (0 : Nat) ≠ 16 := by decide

theorem witness_DeckExpandsThenDecrypts : variant 15 = none ∧ variant 32 = some .aes256 ∧ (63 : Nat) ≠ 16 := by decide

theorem witness_ZeroizeLeavesResetStateButDone : (busyWith 0).rst = false ∧ (busyWith 0).pend ≠ none := by decide +kernel

theorem witness_ErrorChecksInOrder : (busyWith 9).rst = false ∧ (busyWith 9).pend = some 9 ∧ decode 9#32 = none ∧
    variant 20 = none ∧ variant 16 = some .aes128 ∧ (8 : Nat) ≠ 16 ∧ loaded.ksValid = false := by decide +kernel

theorem witness_CommandFrame : (∃ b, Instr.dec 16 = .enc b ∨ Instr.dec 16 = .dec b) ∧
    (∃ k b, Instr.deck 16 16 = .enck k b ∨ Instr.deck 16 16 = .deck k b) ∧ Instr.nop ≠ .zeroize ∧ Reg.rk 59 ≠ .status ∧
    (∀ j, Reg.key 0 ≠ .dout j) :=
  ⟨⟨16, .inr rfl⟩, ⟨16, 16, .inr rfl⟩, by decide, by decide, fun j => by simp⟩

theorem witness_FacadeIsExpkeyThenCipher : variant 32 ≠ none := by decide

theorem witness_KeyWordsBeyondNkAreNotRead : variant 16 = some .aes128 ∧
    (∀ j : Fin 8, j.val < variantNk .aes128 → (loaded.key.set 4 0xFFFFFFFF#32)[j] = loaded.key[j]) ∧
    loaded.key.set 4 0xFFFFFFFF#32 ≠ loaded.key ∧ (Instr.enc 16 = .enc 16 ∨ Instr.enc 16 = .dec 16) := by decide +kernel

theorem witness_GfMultFieldLaws : (0x80#8 : Byte) ≠ 0 ∧ gf28Mult 0x02#8 0x8D#8 = 0x01#8 := by decide +kernel

theorem witness_GfExpLaws : (255#8 : Byte) ≠ 0 ∧ (200#8 : Byte).toNat + (55#8 : Byte).toNat ≤ 255 := by decide

theorem witness_GfInverseOfNonzero : (0xFF#8 : Byte) ≠ 0 := by decide

theorem witness_SBoxInvariants : sBox 0x53#8 = sBox 0x53#8 := rfl

theorem witness_ExpansionRecurrence : (keyWords loaded.key .aes192).length = variantNk .aes192 ∧ 5 < variantNk .aes192 ∧
    variantNk .aes192 ≤ 6 ∧ 51 < 4 * (variantNr .aes192 + 1) := by decide +kernel

theorem witness_RoundTransformsByteByByte : 4 * 14 + (3 : Fin 4).val < 60 := by decide

theorem witness_FullCipherVectors :
    (24 = 24 ∧ (#v[0xDDA97CA4#32, 0x864CDFE0#32, 0x6EAF70A0#32, 0xEC0D7191#32] : Vector Word 4) =
      #v[0xDDA97CA4#32, 0x864CDFE0#32, 0x6EAF70A0#32, 0xEC0D7191#32]) ∧
    loaded.key = #v[0x00010203#32, 0x04050607#32, 0x08090A0B#32, 0x0C0D0E0F#32,
      0x10111213#32, 0x14151617#32, 0x18191A1B#32, 0x1C1D1E1F#32] ∧
    loaded.din = #v[0x00112233#32, 0x44556677#32, 0x8899AABB#32, 0xCCDDEEFF#32] := ⟨⟨rfl, rfl⟩, rfl, rfl⟩

theorem witness_ResetPinGivesResetState : (facing (busyWith 0) [.rst true]).turns = [.rst true] ∧
    (facing (State.reset.pinReset true) [.rst false]).turns = [.rst false] ∧ (State.reset.pinReset true).rst = true ∧
    (facing (busyWith 0) [.rst false]).turns = [.rst false] ∧ (busyWith 0).rst = false := ⟨rfl, rfl, rfl, rfl, rfl⟩

theorem witness_StepKeepsInvariant : (busyWith 2).Inv ∧ ∃ t, step (busyWith 2) = .next t := ⟨busyWith_inv 2, _, rfl⟩

theorem witness_StatusFieldsStayLegal : (busyWith 0).Inv ∧ (busyWith 0).ksValid = true := ⟨busyWith_inv 0, rfl⟩

theorem witness_ResultsChangeOnlyAtTheirEvents :
    (∃ t, step (busyWith 0x00100002#32) = .next t ∧ t.dout ≠ (busyWith 0x00100002#32).dout) ∧
    (∃ t, step (busyWith 6#32) = .next t ∧ t.res ≠ (busyWith 6#32).res) :=
  ⟨⟨_, rfl, by decide +kernel⟩, ⟨_, rfl, by decide +kernel⟩⟩

theorem witness_ScheduleChangesOnlyAtItsEvents : ∃ t, step (busyWith 0x2001#32) = .next t ∧ t.nk ≠ (busyWith 0x2001#32).nk :=
  ⟨_, rfl, by decide +kernel⟩

theorem witness_InputsChangeOnlyAtTheirEvents :
    (∃ t, step (facing scheduled [.busWrite 0x02C 5]) = .next t ∧ t.key[7] ≠ scheduled.key[7]) ∧
    (∃ t, step (facing scheduled [.busWrite 0x03C 5]) = .next t ∧ t.din[3] ≠ scheduled.din[3]) ∧
    (∃ t, step (facing scheduled [.busWrite 0x050 5]) = .next t ∧ t.opa ≠ scheduled.opa) ∧
    (∃ t, step (facing scheduled [.busWrite 0x054 5]) = .next t ∧ t.opb ≠ scheduled.opb) :=
  ⟨⟨_, rfl, by decide +kernel⟩, ⟨_, rfl, by decide +kernel⟩, ⟨_, rfl, by decide +kernel⟩, ⟨_, rfl, by decide +kernel⟩⟩

theorem witness_FlagsChangeOnlyAtTheirEvents :
    (∃ t, step (facing scheduled [.busWrite 0x000 0]) = .next t ∧ scheduled.busy = false ∧ t.busy = true ∧
      scheduled.done = true ∧ t.done = false) ∧
    (∃ t, step (busyWith 0xF#32) = .next t ∧ (busyWith 0xF#32).busy = true ∧ t.busy = false ∧
      (busyWith 0xF#32).done = false ∧ t.done = true ∧ t.err ≠ (busyWith 0xF#32).err) ∧
    (∃ t, step (facing (busyWith 0) [.busWrite 0x030 0]) = .next t ∧ (busyWith 0).ovr = false ∧ t.ovr = true) ∧
    (∃ t, step (facing { scheduled with ovr := true } [.busWrite 0x004 4]) = .next t ∧ t.ovr = false) ∧
    (∃ t, step (loaded.issue 0x1001#32) = .next t ∧ loaded.ksValid = false ∧ t.ksValid = true) ∧
    (∃ t, step (busyWith 8#32) = .next t ∧ (busyWith 8#32).ksValid = true ∧ t.ksValid = false) :=
  ⟨⟨_, rfl, by decide +kernel⟩, ⟨_, rfl, by decide +kernel⟩, ⟨_, rfl, by decide +kernel⟩, ⟨_, rfl, by decide +kernel⟩,
    ⟨_, rfl, by decide +kernel⟩, ⟨_, rfl, by decide +kernel⟩⟩

theorem witness_IrqFollowsDone : (busyWith 0).completionNext ∧ (facing scheduled [.busWrite 0x000 7]).writesNext .cmd 7 ∧
    (facing scheduled [.busWrite 0x004 2]).writesNext .status 2 ∧ (2#32).getLsbD 1 = true ∧
    (facing scheduled [.rst true]).pinNext ∧ (facing (State.reset.pinReset true) [.rst false]).pinNext :=
  ⟨⟨rfl, .inl rfl, by decide +kernel⟩, ⟨rfl, rfl, 0x000, [], rfl, by decide⟩, ⟨rfl, rfl, 0x004, [], rfl, by decide⟩, by decide,
    ⟨true, [], rfl, rfl⟩, false, [], rfl, rfl⟩

theorem witness_HiddenStateIsNeverObserved : ∃ t, step (busyWith 0x00100002#32) = .next t := ⟨_, rfl⟩

theorem witness_HostCannotDisturbPendingCommand : (busyWith 0x00101082#32).rst = false ∧ (busyWith 0x00101082#32).pend ≠ none ∧
    ∀ x ∈ [Turn.busWrite 0x030 0xDEADBEEF, .busWrite 0x000 8, .busRead 0x004], x.isBusAccess = true := by decide +kernel

theorem witness_PendingCommandCompletes : (facing (busyWith 0) [.busRead 0x004, .busRead 0x004]).rst = false ∧
    (facing (busyWith 0) [.busRead 0x004, .busRead 0x004]).pend ≠ none ∧
    ∀ x ∈ (facing (busyWith 0) [.busRead 0x004, .busRead 0x004]).turns, x.isBusAccess = true := by decide +kernel

theorem witness_OnlyNarrowAccessIsRefused : (facing scheduled [.narrowAccess 0x030 .bits8]).turns = [.narrowAccess 0x030 .bits8] ∧
    ∀ a w rest, (facing scheduled [.coreStep]).turns ≠ .narrowAccess a w :: rest := ⟨rfl, fun a w rest => by simp [facing]⟩

theorem witness_HostRunEncryptsAndDecryptsBack : scheduled.rst = false ∧ scheduled.pend = none ∧ scheduled.ksValid = true :=
  ⟨rfl, rfl, rfl⟩

end Sys2Proof.Tests
end

section
/-! PROOFS. Byte and word access (R13): the bits of a word of four bytes, and its bytes read back. -/

namespace Sys2Proof.Machine

/-- Bit 31 is the top bit of the leftmost byte, so the rightmost byte holds bits 7 to 0. -/
theorem wordOf_getLsbD (b0 b1 b2 b3 : Byte) (i : Nat) :
    (wordOf b0 b1 b2 b3).getLsbD i =
      if i < 8 then b3.getLsbD i else if i < 16 then b2.getLsbD (i - 8)
      else if i < 24 then b1.getLsbD (i - 16) else b0.getLsbD (i - 24) := by
  have h16 : i - 8 < 8 ↔ i < 16 := by omega
  have h24 : i - 16 < 8 ↔ i < 24 := by omega
  simp only [wordOf, BitVec.getLsbD_append]
  simp only [Nat.sub_sub, Nat.reduceAdd, h16, h24]

@[simp] theorem byteOf_wordOf (b0 b1 b2 b3 : Byte) (m : Fin 4) :
    byteOf (wordOf b0 b1 b2 b3) m = #v[b0, b1, b2, b3][m] := by
  apply BitVec.eq_of_getLsbD_eq
  intro i hi
  rw [byteOf_getLsbD, wordOf_getLsbD]
  match m with
  | 0 => simp [hi, show ¬ 24 + i < 8 by omega, show ¬ 24 + i < 16 by omega]
  | 1 => simp [hi, show ¬ 16 + i < 8 by omega, show 16 + i < 24 by omega]
  | 2 => simp [hi, show 8 + i < 16 by omega]
  | 3 => simp [hi]

/-- Settles O1, from the bit rule of a byte and from reading a byte of a word of four bytes, both ways round. -/
theorem wordIsItsBytesLeftmostFirst : Obligations.WordIsItsBytesLeftmostFirst := by
  unfold Obligations.WordIsItsBytesLeftmostFirst
  refine ⟨fun w m i hi => ?_, fun b0 b1 b2 b3 => ?_, wordOf_byteOf⟩
  · rw [byteOf_getLsbD, decide_eq_true hi, Bool.true_and]
  · have bytes := byteOf_wordOf b0 b1 b2 b3
    exact ⟨rfl, bytes 0, bytes 1, bytes 2, bytes 3⟩

end Sys2Proof.Machine
end

section
/-! PROOFS. What one command and one step can change (R191, R193, R240), said once for the statements about the state. -/

namespace Sys2Proof.Machine

/-- The registers a host write stores into while idle (R25, R26, R29). -/
def Reg.IsInput (r : Reg) : Prop := (∃ j, r = .key j) ∨ (∃ j, r = .din j) ∨ r = .opa ∨ r = .opb

/-- What the completion of a command leaves, up to the values it computes: the frame of R78. -/
inductive CommandEffect (s : State) : Instr → State → Prop
  | failed (i : Instr) (code : ErrCode) (error : code ≠ .success) : CommandEffect s i (s.complete code)
  | nop : CommandEffect s .nop (s.complete .success)
  | result (i : Instr) (b : Byte) (gf : i = .gfmul ∨ i = .gfexp ∨ i = .sbox ∨ i = .isbox) :
      CommandEffect s i ((s.setRes b).complete .success)
  | expanded (k : Nat) (v : Variant) :
      CommandEffect s (.expkey k) ((s.storeSchedule (aesKeyExpand (keyWords s.key v) v) v).complete .success)
  | ciphered (i : Instr) (b : Nat) (out : Vector Word 4) (cipher : i = .enc b ∨ i = .dec b) :
      CommandEffect s i ((s.storeDout out).leaveMatrix.complete .success)
  | facade (i : Instr) (k b : Nat) (v : Variant) (out : Vector Word 4) (cipher : i = .enck k b ∨ i = .deck k b) :
      CommandEffect s i
        (((s.storeSchedule (aesKeyExpand (keyWords s.key v) v) v).storeDout out).leaveMatrix.complete .success)
  | zeroized : CommandEffect s .zeroize (s.zeroized.complete .success)

/-- What one step leaves, with the event of R35 that it is. -/
inductive StepEvent (s : State) : State → Prop
  | quiet (rest : List Turn) (data : Word) : StepEvent s { s with turns := rest, readData := data }
  | dropped (a : Offset) (v : Word) (rest : List Turn) (released : s.rst = false) (busy : s.pend ≠ none)
      (turn : s.turns = .busWrite a v :: rest) : StepEvent s ({ s with turns := rest } : State).dropWrite
  | issued (c : Word) (rest : List Turn) (write : s.writesNext .cmd c) :
      StepEvent s (({ s with turns := rest } : State).issue c)
  | cleared (v : Word) (rest : List Turn) (write : s.writesNext .status v) :
      StepEvent s (({ s with turns := rest } : State).clearFlags v)
  | stored (r : Reg) (v : Word) (rest : List Turn) (input : r.IsInput) (write : s.writesNext r v) :
      StepEvent s { s with
        turns := rest
        key := (s.writeReg r v).key
        din := (s.writeReg r v).din
        opa := (s.writeReg r v).opa
        opb := (s.writeReg r v).opb }
  | pinned (level : Bool) (rest : List Turn) (pin : s.pinNext) :
      StepEvent s (({ s with turns := rest } : State).pinReset level)
  | completed (i : Instr) (rest : List Turn) (t : State) (completion : s.completesNext i)
      (effect : CommandEffect { s with turns := rest } i t) : StepEvent s t
  | illegal (rest : List Turn) (completion : s.completionNext) :
      StepEvent s (({ s with turns := rest } : State).complete .illegalCommand)

theorem expkeyBody_effect {k : Nat} {s t : State} (h : completion s (expkeyBody k s) = .next t) :
    CommandEffect s (.expkey k) t := by
  obtain ⟨-, body⟩ | ⟨v, -, body⟩ := expkeyBody_cases k s <;> rw [body] at h <;> cases h
  · exact .failed _ _ (by decide)
  · exact .expanded k v

theorem storedScheduleBody_effect {f : Vector Word 4 → Vector Word 60 → Nat → Vector Word 4} {b : Nat} {s t : State}
    {i : Instr} (cipher : i = .enc b ∨ i = .dec b) (h : completion s (storedScheduleBody f b s) = .next t) :
    CommandEffect s i t := by
  obtain ⟨-, body⟩ | ⟨-, -, body⟩ | ⟨-, -, body⟩ := storedScheduleBody_cases f b s <;> rw [body] at h <;> cases h
  · exact .failed _ _ (by decide)
  · exact .failed _ _ (by decide)
  · exact .ciphered _ b _ cipher

theorem facadeBody_effect {f : Vector Word 4 → Vector Word 60 → Nat → Vector Word 4} {k b : Nat} {s t : State}
    {i : Instr} (cipher : i = .enck k b ∨ i = .deck k b) (h : completion s (facadeBody f k b s) = .next t) :
    CommandEffect s i t := by
  obtain ⟨-, body⟩ | ⟨v, -, -, body⟩ | ⟨v, -, -, body⟩ := facadeBody_cases f k b s <;> rw [body] at h <;> cases h
  · exact .failed _ _ (by decide)
  · exact .failed _ _ (by decide)
  · exact .facade _ k b v _ cipher

theorem commandEffect_of_exec {i : Instr} {s t : State} (h : exec i s = .next t) : CommandEffect s i t := by
  cases i with
  | nop => cases h; exact .nop
  | expkey k => exact expkeyBody_effect h
  | enc b => exact storedScheduleBody_effect (.inl rfl) h
  | enck k b => exact facadeBody_effect (.inl rfl) h
  | dec b => exact storedScheduleBody_effect (.inr rfl) h
  | deck k b => exact facadeBody_effect (.inr rfl) h
  | gfmul => cases h; exact .result _ _ (.inl rfl)
  | gfexp => cases h; exact .result _ _ (.inr (.inl rfl))
  | sbox => cases h; exact .result _ _ (.inr (.inr (.inl rfl)))
  | isbox => cases h; exact .result _ _ (.inr (.inr (.inr rfl)))
  | zeroize => cases h; exact .zeroized

theorem stepEvent_of_busWrite {s : State} {a : Offset} {v : Word} {rest : List Turn}
    (turn : s.turns = .busWrite a v :: rest) :
    StepEvent s (({ s with turns := rest } : State).busWrite a v) := by
  obtain ⟨-, h⟩ | ⟨released, busy, h⟩ | ⟨-, -, -, h⟩ | ⟨r, released, idle, hr, h⟩ :=
    busWrite_cases { s with turns := rest } a v <;> rw [h]
  · exact .quiet rest s.readData
  · exact .dropped a v rest released busy turn
  · exact .quiet rest s.readData
  · have write : s.writesNext r v := ⟨released, idle, a, rest, turn, hr⟩
    cases r with
    | cmd => exact .issued v rest write
    | status => exact .cleared v rest write
    | key j => exact .stored _ v rest (.inl ⟨j, rfl⟩) write
    | din j => exact .stored _ v rest (.inr (.inl ⟨j, rfl⟩)) write
    | opa => exact .stored _ v rest (.inr (.inr (.inl rfl))) write
    | opb => exact .stored _ v rest (.inr (.inr (.inr rfl))) write
    | id | dout j | res | rk i => exact .quiet rest s.readData

theorem stepEvent_of_drivePin {s : State} {level : Bool} {rest : List Turn} (turn : s.turns = .rst level :: rest) :
    StepEvent s (({ s with turns := rest } : State).drivePin level) := by
  obtain ⟨event, h⟩ | ⟨-, -, h⟩ := drivePin_cases { s with turns := rest } level <;> rw [h]
  · exact .pinned level rest ⟨level, rest, turn, event⟩
  · exact .quiet rest s.readData

theorem stepEvent_of_coreTurn {s t : State} {rest : List Turn} (moves : s.coreMoves)
    (h : ({ s with turns := rest } : State).coreTurn = .next t) : StepEvent s t := by
  obtain ⟨-, rfl⟩ | ⟨c, i, released, pending, decoded, h⟩ | ⟨c, released, pending, -, rfl⟩ := coreTurn_cases h
  · exact .quiet rest s.readData
  · exact .completed i rest t ⟨released, moves, c, pending, decoded⟩ (commandEffect_of_exec h)
  · exact .illegal rest ⟨released, moves, Option.ne_none_iff_exists'.mpr ⟨c, pending⟩⟩

/-- Every step is one of the events. -/
theorem stepEvent_of_step {s t : State} (h : step s = .next t) : StepEvent s t := by
  obtain ⟨a, rest, turn, rfl⟩ | ⟨a, v, rest, turn, rfl⟩ | ⟨level, rest, turn, rfl⟩ | ⟨rest, turn, h⟩ | ⟨turn, h⟩ :=
    step_cases h
  · exact .quiet rest _
  · exact stepEvent_of_busWrite turn
  · exact stepEvent_of_drivePin turn
  · exact stepEvent_of_coreTurn (.inr ⟨rest, turn⟩) h
  · exact stepEvent_of_coreTurn (rest := s.turns) (.inl turn) h

/-- A completion of a command is a completion. -/
theorem State.completesNext.completionNext {s : State} {i : Instr} (h : s.completesNext i) : s.completionNext := by
  obtain ⟨released, moves, c, pending, -⟩ := h
  exact ⟨released, moves, Option.ne_none_iff_exists'.mpr ⟨c, pending⟩⟩

theorem CommandEffect.pend {s t : State} {i : Instr} (e : CommandEffect s i t) : t.pend = none := by
  cases e <;> rfl

theorem CommandEffect.done {s t : State} {i : Instr} (e : CommandEffect s i t) : t.done = true := by
  cases e <;> rfl

theorem CommandEffect.rst {s t : State} {i : Instr} (e : CommandEffect s i t) : t.rst = s.rst := by
  cases e <;> rfl

end Sys2Proof.Machine
end

section
/-! PROOFS. The register window at rest: the map (R20, R53, R57), the STATUS word (R23), the idle data write (R25, R26, R29) and
reset (R37). -/

namespace Sys2Proof.Machine

theorem regAt_regOffset (r : Reg) : regAt (regOffset r) = some r := by
  cases r with
  | cmd | status | id | opa | opb | res => decide
  | key j => revert j; decide
  | din j => revert j; decide
  | dout j => revert j; decide
  | rk i => revert i; decide

theorem alignedOffset_masked (a : Offset) : alignedOffset (a &&& 0xFFC#12) = alignedOffset a := by
  simp [alignedOffset, BitVec.and_assoc]

/-- Dropping the two low address bits leaves a multiple of 4. -/
theorem alignedOffset_mod_four (a : Offset) : alignedOffset a % 4 = 0 := by
  have low : (a.toNat &&& 0xFFC) % 2 ^ 2 = 0 := by
    rw [Nat.and_mod_two_pow]
    exact Nat.and_zero _
  simpa [alignedOffset] using low

theorem regAt_eq_none_iff (a : Offset) :
    regAt a = none ↔
      alignedOffset a = 0x00C ∨ (0x05C ≤ alignedOffset a ∧ alignedOffset a ≤ 0x0FC) ∨ 0x1F0 ≤ alignedOffset a := by
  have aligned := alignedOffset_mod_four a
  unfold regAt
  dsimp only
  split_ifs <;> simp only [false_iff, true_iff] <;> omega

/-- Settles O7, register by register for the map, and from the aligned offset's range for the unmapped offsets. -/
theorem windowMapIsTheTable : Obligations.WindowMapIsTheTable := by
  unfold Obligations.WindowMapIsTheTable
  refine ⟨regAt_regOffset, fun a => ?_, fun a => ?_⟩
  · simp only [regAt, alignedOffset_masked]
  · rw [regAt_eq_none_iff]
    simp [alignedOffset, ← BitVec.toNat_inj, BitVec.le_def]

theorem busWrite_of_idle {s : State} (released : s.rst = false) (idle : s.pend = none) {a : Offset} {r : Reg}
    (target : regAt a = some r) (v : Word) : s.busWrite a v = s.writeReg r v := by
  simp [State.busWrite, State.busy, released, idle, target]

theorem busWrite_of_busy {s : State} (released : s.rst = false) (busy : s.pend ≠ none) (a : Offset) (v : Word) :
    s.busWrite a v = s.dropWrite := by
  simp [State.busWrite, State.busy, released, Option.isSome_iff_ne_none.mpr busy]

/-- Settles O9: an idle write is the flags' W1C write, a busy one is dropped. -/
theorem statusWriteClearsDoneAndOvr : Obligations.StatusWriteClearsDoneAndOvr := by
  unfold Obligations.StatusWriteClearsDoneAndOvr
  intro s a v rest released target turn
  rw [step_of_turn turn, State.takeTurn]
  refine ⟨fun idle => ?_, fun busy => ?_⟩
  · rw [busWrite_of_idle (s := { s with turns := rest }) released idle target]
    simp only [State.writeReg, State.clearFlags]
    cases v.getLsbD 1 <;> cases v.getLsbD 2 <;> simp
  · rw [busWrite_of_busy (s := { s with turns := rest }) released busy]
    rfl

theorem statusWord_getLsbD (s : State) (i : Nat) :
    s.statusWord.getLsbD i =
      if i < 1 then s.busy else if i < 2 then s.done else if i < 3 then s.ovr else if i < 4 then s.ksValid
      else if i < 8 then (errBits s.err).getLsbD (i - 4) else if i < 12 then s.nk.getLsbD (i - 8)
      else if i < 16 then s.nr.getLsbD (i - 12) else false := by
  have flag (b : Bool) (k : Nat) : (BitVec.ofBool b).getLsbD k = (decide (k < 1) && b) := by simp
  have below_one (m : Nat) : i - m < 1 ↔ i < m + 1 := by omega
  have below_four (m : Nat) : i - m < 4 ↔ i < m + 4 := by omega
  simp only [State.statusWord, BitVec.getLsbD_append, BitVec.getLsbD_zero, flag]
  simp only [Nat.sub_sub, below_one, below_four, Nat.reduceAdd]
  split_ifs <;> simp [*]

theorem statusWord_fields (s : State) :
    s.statusWord.extractLsb' 4 4 = errBits s.err ∧ s.statusWord.extractLsb' 8 4 = s.nk ∧
      s.statusWord.extractLsb' 12 4 = s.nr ∧ s.statusWord.extractLsb' 16 16 = 0 := by
  refine ⟨?_, ?_, ?_, ?_⟩ <;> apply BitVec.eq_of_getLsbD_eq <;> intro i hi <;>
    simp (disch := omega) only [BitVec.getLsbD_extractLsb', statusWord_getLsbD, if_neg, if_pos] <;> simp [hi]

/-- Settles O14, bit by bit. -/
theorem statusWordFields : Obligations.StatusWordFields := by
  unfold Obligations.StatusWordFields
  intro s
  refine ⟨?_, ?_, ?_, ?_, statusWord_fields s⟩ <;> exact statusWord_getLsbD s _

/-- A write to an input register leaves everything but the input registers. -/
theorem Reg.IsInput.writeReg_eq {r : Reg} (h : r.IsInput) (s : State) (v : Word) :
    s.writeReg r v = { s with
      key := (s.writeReg r v).key, din := (s.writeReg r v).din, opa := (s.writeReg r v).opa, opb := (s.writeReg r v).opb } := by
  obtain ⟨j, rfl⟩ | ⟨j, rfl⟩ | rfl | rfl := h <;> rfl

/-- A write to an input register stores into that register only. -/
theorem readReg_writeReg_of_ne (s : State) {r r' : Reg} (v : Word) (input : r.IsInput) (other : r' ≠ r) :
    (s.writeReg r v).readReg r' = s.readReg r' := by
  obtain ⟨j, rfl⟩ | ⟨j, rfl⟩ | rfl | rfl := input
  · cases r' with
    | key j' =>
      have apart : j.val ≠ j'.val := fun h => other (congrArg Reg.key (Fin.ext h.symm))
      exact Vector.getElem_set_ne j.isLt j'.isLt apart
    | _ => rfl
  · cases r' with
    | din j' =>
      have apart : j.val ≠ j'.val := fun h => other (congrArg Reg.din (Fin.ext h.symm))
      exact Vector.getElem_set_ne j.isLt j'.isLt apart
    | _ => rfl
  · cases r' with
    | opa => exact absurd rfl other
    | _ => rfl
  · cases r' with
    | opb => exact absurd rfl other
    | _ => rfl

@[simp] theorem readReg_writeReg_key (s : State) (j : Fin 8) (v : Word) :
    (s.writeReg (.key j) v).readReg (.key j) = v :=
  Vector.getElem_set_self j.isLt

@[simp] theorem readReg_writeReg_din (s : State) (j : Fin 4) (v : Word) :
    (s.writeReg (.din j) v).readReg (.din j) = v :=
  Vector.getElem_set_self j.isLt

/-- The low byte of a word, as OPA and OPB hold it and as they read (R29). -/
theorem setWidth_setWidth_eq_and (v : Word) : (v.setWidth 8).setWidth 32 = v &&& 0xFF#32 := by
  apply BitVec.eq_of_toNat_eq
  have small : v.toNat % 2 ^ 8 < 2 ^ 32 := by omega
  simpa [Nat.and_two_pow_sub_one_eq_mod v.toNat 8] using small

/-- Settles O10, from what the window reads after a write to one input register. -/
theorem dataWriteChangesOneRegister : Obligations.DataWriteChangesOneRegister := by
  unfold Obligations.DataWriteChangesOneRegister
  intro s r v released idle input
  rw [busWrite_of_idle released idle (regAt_regOffset r)]
  refine ⟨fun r' other => readReg_writeReg_of_ne s v input other, ?_, ?_, ?_, ?_⟩
  · rintro (⟨j, rfl⟩ | ⟨j, rfl⟩)
    · exact readReg_writeReg_key s j v
    · exact readReg_writeReg_din s j v
  · rintro (rfl | rfl) <;> exact setWidth_setWidth_eq_and v
  · rw [Reg.IsInput.writeReg_eq input]
  · rw [Reg.IsInput.writeReg_eq input]

theorem readReg_reset_of_ne_id (r : Reg) (h : r ≠ .id) : State.reset.readReg r = 0 := by
  cases r with
  | id => exact absurd rfl h
  | key j => revert j; decide
  | din j => revert j; decide
  | dout j => revert j; decide
  | rk i => exact Vector.getElem_replicate i.isLt
  | cmd | status | opa | opb | res => rfl

/-- Settles O45, register by register. -/
theorem resetStateIsZeroButId : Obligations.ResetStateIsZeroButId := by
  unfold Obligations.ResetStateIsZeroButId
  exact ⟨readReg_reset_of_ne_id, rfl, rfl, rfl, rfl, rfl, rfl, rfl, rfl, by decide, rfl, rfl⟩

/-- Settles O47: the store is empty, nothing is pending and the pin is released. -/
theorem resetMeetsInvariant : Obligations.ResetMeetsInvariant := by
  unfold Obligations.ResetMeetsInvariant
  exact ⟨.inl ⟨rfl, rfl, rfl, rfl⟩, fun pending => absurd rfl pending, fun _ => rfl⟩

theorem scheduleStored_pair {s : State} {v : Variant} (h : s.scheduleStored v) :
    (s.nk = 4 ∧ s.nr = 10) ∨ (s.nk = 6 ∧ s.nr = 12) ∨ (s.nk = 8 ∧ s.nr = 14) := by
  obtain ⟨-, nk, nr, -⟩ := h
  rw [nk, nr]
  cases v <;> decide

theorem errBits_le_four (code : ErrCode) : errBits code ≤ 4#4 := by
  cases code <;> decide

/-- Settles O49, by the two cases of the schedule invariant; the ERR field is the code of an `ErrCode`. -/
theorem statusFieldsStayLegal : Obligations.StatusFieldsStayLegal := by
  unfold Obligations.StatusFieldsStayLegal
  rintro s ⟨schedule, -, -⟩
  have err : (s.readReg .status).extractLsb' 4 4 ≤ 4#4 := by
    obtain ⟨field, -⟩ := statusWord_fields s
    exact field ▸ errBits_le_four s.err
  obtain ⟨ksValid, nk, nr, -⟩ | ⟨v, stored⟩ := schedule
  · simp [ksValid, nk, nr, err]
  · have pair := scheduleStored_pair stored
    obtain ⟨ksValid, -⟩ := stored
    refine ⟨?_, ?_, fun _ => pair, err⟩ <;>
      obtain ⟨nk, nr⟩ | ⟨nk, nr⟩ | ⟨nk, nr⟩ := pair <;> simp [ksValid, nk, nr]

end Sys2Proof.Machine
end

section
/-! PROOFS. What every step keeps (R23, R32, R194, R240, R253) and at which events each piece of state changes (R25 to R31,
R35). -/

namespace Sys2Proof.Machine

/-! ## The schedule store -/

/-- The schedule store of two states is the same. -/
def State.SameSchedule (s t : State) : Prop := t.rk = s.rk ∧ t.ksValid = s.ksValid ∧ t.nk = s.nk ∧ t.nr = s.nr

theorem keyWords_length (key : Vector Word 8) (v : Variant) : (keyWords key v).length = variantNk v := by
  cases v <;> simp [keyWords, variantNk]

theorem CommandEffect.schedule {s t : State} {i : Instr} (e : CommandEffect s i t) :
    s.SameSchedule t ∨ (i = .zeroize ∧ t.noScheduleStored) ∨
      ((t.err = .success ∧ ∃ k b, i = .expkey k ∨ i = .enck k b ∨ i = .deck k b) ∧ ∃ v, t.scheduleStored v) := by
  cases e with
  | expanded k v =>
    exact .inr (.inr ⟨⟨rfl, k, 0, .inl rfl⟩, v, rfl, rfl, rfl, keyWords s.key v, keyWords_length s.key v, rfl⟩)
  | facade i k b v out cipher =>
    exact .inr (.inr ⟨⟨rfl, k, b, .inr cipher⟩, v, rfl, rfl, rfl, keyWords s.key v, keyWords_length s.key v, rfl⟩)
  | zeroized => exact .inr (.inl ⟨rfl, rfl, rfl, rfl, rfl⟩)
  | failed | nop | result | ciphered => exact .inl ⟨rfl, rfl, rfl, rfl⟩

/-- The next step is a completion of one of the three expanding commands. -/
def State.expansionNext (s : State) : Prop :=
  ∃ k b, s.completesNext (.expkey k) ∨ s.completesNext (.enck k b) ∨ s.completesNext (.deck k b)

/-- Everything a step can do to the schedule store. -/
theorem StepEvent.schedule {s t : State} (e : StepEvent s t) :
    s.SameSchedule t ∨ ((s.completesNext .zeroize ∨ s.pinNext) ∧ t.noScheduleStored) ∨
      ((t.err = .success ∧ s.expansionNext) ∧ ∃ v, t.scheduleStored v) := by
  cases e with
  | pinned level rest pin => exact .inr (.inl ⟨.inr pin, rfl, rfl, rfl, rfl⟩)
  | completed i rest t completion effect =>
    obtain same | ⟨rfl, empty⟩ | ⟨⟨success, k, b, rfl | rfl | rfl⟩, stored⟩ := effect.schedule
    · exact .inl same
    · exact .inr (.inl ⟨.inl completion, empty⟩)
    · exact .inr (.inr ⟨⟨success, k, b, .inl completion⟩, stored⟩)
    · exact .inr (.inr ⟨⟨success, k, b, .inr (.inl completion)⟩, stored⟩)
    · exact .inr (.inr ⟨⟨success, k, b, .inr (.inr completion)⟩, stored⟩)
  | quiet | stored | dropped | issued | cleared | illegal => exact .inl ⟨rfl, rfl, rfl, rfl⟩

/-- Settles O51, from what a step can do to the store. -/
theorem scheduleChangesOnlyAtItsEvents : Obligations.ScheduleChangesOnlyAtItsEvents := by
  unfold Obligations.ScheduleChangesOnlyAtItsEvents
  intro s t h changed
  obtain ⟨rk, ksValid, nk, nr⟩ | ⟨zeroize | pin, -⟩ | ⟨expansion, -⟩ := (stepEvent_of_step h).schedule
  · simp [rk, ksValid, nk, nr] at changed
  · exact .inr (.inl zeroize)
  · exact .inl pin
  · exact .inr (.inr expansion)

/-! ## The invariant -/

theorem State.SameSchedule.scheduleInv {s t : State} (same : s.SameSchedule t) (inv : s.scheduleInv) : t.scheduleInv := by
  obtain ⟨rk, ksValid, nk, nr⟩ := same
  simpa only [State.scheduleInv, State.noScheduleStored, State.scheduleStored, rk, ksValid, nk, nr] using inv

theorem StepEvent.keeps_scheduleInv {s t : State} (e : StepEvent s t) (inv : s.scheduleInv) : t.scheduleInv := by
  obtain same | ⟨-, empty⟩ | ⟨-, stored⟩ := e.schedule
  · exact same.scheduleInv inv
  · exact .inl empty
  · exact .inr stored

/-- Only an issue makes a command pending, and it writes DONE and ERR with 0 (R190). -/
theorem StepEvent.keeps_pendingInv {s t : State} (e : StepEvent s t) (inv : s.pendingInv) : t.pendingInv := by
  intro pending
  cases e with
  | quiet | dropped => exact inv pending
  | issued => exact ⟨rfl, rfl⟩
  | cleared v rest write | stored r v rest input write =>
    obtain ⟨-, idle, -⟩ := write
    exact absurd idle pending
  | completed i rest t completion effect => exact absurd effect.pend pending
  | pinned | illegal => exact absurd rfl pending

/-- While the pin is asserted a step changes only the model's own fields, or drives the pin. -/
theorem StepEvent.keeps_pinInv {s t : State} (e : StepEvent s t) (inv : s.pinInv) : t.pinInv := by
  intro asserted
  cases e with
  | quiet => exact inv asserted
  | pinned => rfl
  | dropped a v rest released => exact absurd (asserted.symm.trans released) (by decide)
  | issued c rest write | cleared c rest write | stored r c rest input write =>
    obtain ⟨released, -⟩ := write
    exact absurd (asserted.symm.trans released) (by decide)
  | completed i rest t completion effect =>
    obtain ⟨released, -⟩ := completion
    exact absurd (asserted.symm.trans (effect.rst.trans released)) (by decide)
  | illegal rest completion =>
    obtain ⟨released, -⟩ := completion
    exact absurd (asserted.symm.trans released) (by decide)

/-- Settles O48, one lemma for each part of the invariant. -/
theorem stepKeepsInvariant : Obligations.StepKeepsInvariant := by
  unfold Obligations.StepKeepsInvariant
  rintro s t ⟨schedule, pending, pin⟩ h
  have event := stepEvent_of_step h
  exact ⟨event.keeps_scheduleInv schedule, event.keeps_pendingInv pending, event.keeps_pinInv pin⟩

/-! ## The result registers -/

theorem StepEvent.dout_changed {s t : State} (e : StepEvent s t) (changed : t.dout ≠ s.dout) :
    s.pinNext ∨ s.completesNext .zeroize ∨
      (t.err = .success ∧
        ∃ k b, s.completesNext (.enc b) ∨ s.completesNext (.enck k b) ∨ s.completesNext (.dec b) ∨
          s.completesNext (.deck k b)) := by
  cases e with
  | pinned level rest pin => exact .inl pin
  | completed i rest t completion effect =>
    cases effect with
    | ciphered i b out cipher =>
      obtain rfl | rfl := cipher
      · exact .inr (.inr ⟨rfl, 0, b, .inl completion⟩)
      · exact .inr (.inr ⟨rfl, 0, b, .inr (.inr (.inl completion))⟩)
    | facade i k b v out cipher =>
      obtain rfl | rfl := cipher
      · exact .inr (.inr ⟨rfl, k, b, .inr (.inl completion)⟩)
      · exact .inr (.inr ⟨rfl, k, b, .inr (.inr (.inr completion))⟩)
    | zeroized => exact .inr (.inl completion)
    | failed | nop | result | expanded => exact absurd rfl changed
  | quiet | stored | dropped | issued | cleared | illegal => exact absurd rfl changed

theorem StepEvent.res_changed {s t : State} (e : StepEvent s t) (changed : t.res ≠ s.res) :
    s.pinNext ∨ s.completesNext .zeroize ∨
      (t.err = .success ∧
        (s.completesNext .gfmul ∨ s.completesNext .gfexp ∨ s.completesNext .sbox ∨ s.completesNext .isbox)) := by
  cases e with
  | pinned level rest pin => exact .inl pin
  | completed i rest t completion effect =>
    cases effect with
    | result i b gf => obtain rfl | rfl | rfl | rfl := gf <;> simp [completion]
    | zeroized => exact .inr (.inl completion)
    | failed | nop | ciphered | facade | expanded => exact absurd rfl changed
  | quiet | stored | dropped | issued | cleared | illegal => exact absurd rfl changed

/-- Settles O50, one lemma for each result register. -/
theorem resultsChangeOnlyAtTheirEvents : Obligations.ResultsChangeOnlyAtTheirEvents := by
  unfold Obligations.ResultsChangeOnlyAtTheirEvents
  intro s t h
  exact ⟨(stepEvent_of_step h).dout_changed, (stepEvent_of_step h).res_changed⟩

/-! ## The input registers -/

/-- The input registers of two states are the same. -/
def State.SameInputs (s t : State) : Prop := t.key = s.key ∧ t.din = s.din ∧ t.opa = s.opa ∧ t.opb = s.opb

theorem CommandEffect.inputs {s t : State} {i : Instr} (e : CommandEffect s i t) : i = .zeroize ∨ s.SameInputs t := by
  cases e with
  | zeroized => exact .inl rfl
  | _ => exact .inr ⟨rfl, rfl, rfl, rfl⟩

/-- Everything a step can do to the input registers. -/
theorem StepEvent.inputs {s t : State} (e : StepEvent s t) :
    s.SameInputs t ∨ (s.pinNext ∨ s.completesNext .zeroize) ∨
      ∃ r v, r.IsInput ∧ s.writesNext r v ∧ (s.writeReg r v).SameInputs t := by
  cases e with
  | pinned level rest pin => exact .inr (.inl (.inl pin))
  | stored r v rest input write => exact .inr (.inr ⟨r, v, input, write, rfl, rfl, rfl, rfl⟩)
  | completed i rest t completion effect =>
    obtain rfl | same := effect.inputs
    · exact .inr (.inl (.inr completion))
    · exact .inl same
  | quiet | dropped | issued | cleared | illegal => exact .inl ⟨rfl, rfl, rfl, rfl⟩

theorem byte_eq_of_setWidth_eq {a b : Byte} (h : a.setWidth 32 = b.setWidth 32) : a = b := by
  simpa using congrArg (BitVec.setWidth 8) h

/-- Settles O52: a register that changes in a step that writes an input register is the one written. -/
theorem inputsChangeOnlyAtTheirEvents : Obligations.InputsChangeOnlyAtTheirEvents := by
  unfold Obligations.InputsChangeOnlyAtTheirEvents
  intro s t h
  obtain ⟨key, din, opa, opb⟩ | event | ⟨r, v, input, write, key, din, opa, opb⟩ := (stepEvent_of_step h).inputs
  · simp [key, din, opa, opb]
  · have event {p : Prop} : s.pinNext ∨ s.completesNext .zeroize ∨ p := or_assoc.mp (.inl event)
    exact ⟨fun _ _ => event, fun _ _ => event, fun _ => event, fun _ => event⟩
  · rw [key, din, opa, opb]
    have written {r' : Reg} (changed : (s.writeReg r v).readReg r' ≠ s.readReg r') : r' = r :=
      by_contra fun other => changed (readReg_writeReg_of_ne s v input other)
    refine ⟨fun j changed => .inr (.inr ⟨v, ?_⟩), fun j changed => .inr (.inr ⟨v, ?_⟩),
      fun changed => .inr (.inr ⟨v, ?_⟩), fun changed => .inr (.inr ⟨v, ?_⟩)⟩
    · obtain rfl : .key j = r := written changed
      exact ⟨write, readReg_writeReg_key s j v⟩
    · obtain rfl : .din j = r := written changed
      exact ⟨write, readReg_writeReg_din s j v⟩
    · obtain rfl : .opa = r := written fun h => changed (byte_eq_of_setWidth_eq h)
      exact ⟨write, rfl⟩
    · obtain rfl : .opb = r := written fun h => changed (byte_eq_of_setWidth_eq h)
      exact ⟨write, rfl⟩

/-! ## The flags -/

theorem CommandEffect.ovr {s t : State} {i : Instr} (e : CommandEffect s i t) :
    t.ovr = s.ovr ∨ (i = .zeroize ∧ t.ovr = false) := by
  cases e with
  | zeroized => exact .inr ⟨rfl, rfl⟩
  | _ => exact .inl rfl

/-- What a step does to PEND, so to BUSY. -/
theorem StepEvent.pend {s t : State} (e : StepEvent s t) :
    t.pend = s.pend ∨ (∃ c, s.writesNext .cmd c ∧ t.pend = some c) ∨
      ((s.completionNext ∨ s.pinNext) ∧ t.pend = none) := by
  cases e with
  | issued c rest write => exact .inr (.inl ⟨c, write, rfl⟩)
  | pinned level rest pin => exact .inr (.inr ⟨.inr pin, rfl⟩)
  | completed i rest t completion effect => exact .inr (.inr ⟨.inl completion.completionNext, effect.pend⟩)
  | illegal rest completion => exact .inr (.inr ⟨.inl completion, rfl⟩)
  | quiet | stored | dropped | cleared => exact .inl rfl

theorem StepEvent.done {s t : State} (e : StepEvent s t) :
    t.done = s.done ∨ (s.completionNext ∧ t.done = true) ∨
      (((∃ c, s.writesNext .cmd c) ∨ (∃ v, s.writesNext .status v ∧ v.getLsbD 1 = true) ∨ s.pinNext) ∧
        t.done = false) := by
  cases e with
  | issued c rest write => exact .inr (.inr ⟨.inl ⟨c, write⟩, rfl⟩)
  | cleared v rest write =>
    cases bit : v.getLsbD 1 with
    | true => exact .inr (.inr ⟨.inr (.inl ⟨v, write, bit⟩), by rw [State.clearFlags_done, if_pos bit]⟩)
    | false => exact .inl (by rw [State.clearFlags_done, bit, if_neg Bool.false_ne_true])
  | pinned level rest pin => exact .inr (.inr ⟨.inr (.inr pin), rfl⟩)
  | completed i rest t completion effect => exact .inr (.inl ⟨completion.completionNext, effect.done⟩)
  | illegal rest completion => exact .inr (.inl ⟨completion, rfl⟩)
  | quiet | stored | dropped => exact .inl rfl

theorem StepEvent.ovr {s t : State} (e : StepEvent s t) :
    t.ovr = s.ovr ∨ ((s.rst = false ∧ s.pend ≠ none ∧ ∃ a v rest, s.turns = .busWrite a v :: rest) ∧ t.ovr = true) ∨
      (((∃ v, s.writesNext .status v ∧ v.getLsbD 2 = true) ∨ s.completesNext .zeroize ∨ s.pinNext) ∧
        t.ovr = false) := by
  cases e with
  | dropped a v rest released busy turn => exact .inr (.inl ⟨⟨released, busy, a, v, rest, turn⟩, rfl⟩)
  | cleared v rest write =>
    cases bit : v.getLsbD 2 with
    | true => exact .inr (.inr ⟨.inl ⟨v, write, bit⟩, by rw [State.clearFlags_ovr, if_pos bit]⟩)
    | false => exact .inl (by rw [State.clearFlags_ovr, bit, if_neg Bool.false_ne_true])
  | pinned level rest pin => exact .inr (.inr ⟨.inr (.inr pin), rfl⟩)
  | completed i rest t completion effect =>
    obtain same | ⟨rfl, clear⟩ := effect.ovr
    · exact .inl same
    · exact .inr (.inr ⟨.inr (.inl completion), clear⟩)
  | quiet | stored | issued | illegal => exact .inl rfl

theorem StepEvent.err {s t : State} (e : StepEvent s t) :
    t.err = s.err ∨ s.completionNext ∨ (∃ c, s.writesNext .cmd c) ∨ s.pinNext := by
  cases e with
  | issued c rest write => exact .inr (.inr (.inl ⟨c, write⟩))
  | pinned level rest pin => exact .inr (.inr (.inr pin))
  | completed i rest t completion effect => exact .inr (.inl completion.completionNext)
  | illegal rest completion => exact .inr (.inl completion)
  | quiet | stored | dropped | cleared => exact .inl rfl

/-- What a step does to KS_VALID, from what it does to the schedule store. -/
theorem StepEvent.ksValid {s t : State} (e : StepEvent s t) :
    t.ksValid = s.ksValid ∨ ((t.err = .success ∧ s.expansionNext) ∧ t.ksValid = true) ∨
      ((s.completesNext .zeroize ∨ s.pinNext) ∧ t.ksValid = false) := by
  obtain ⟨-, same, -⟩ | ⟨event, clear, -⟩ | ⟨expansion, v, set, -⟩ := e.schedule
  · exact .inl same
  · exact .inr (.inr ⟨event, clear⟩)
  · exact .inr (.inl ⟨expansion, set⟩)

/-- A flag that a step leaves, sets at the event `p` or clears at the event `q` is set only at `p` and cleared only at `q`. -/
theorem flag_events {b b' : Bool} {p q : Prop} (h : b' = b ∨ (p ∧ b' = true) ∨ (q ∧ b' = false)) :
    (b = false → b' = true → p) ∧ (b = true → b' = false → q) := by
  obtain rfl | ⟨hp, rfl⟩ | ⟨hq, rfl⟩ := h
  · cases b' <;> simp
  · simp [hp]
  · simp [hq]

/-- Settles O53, one lemma for each flag. -/
theorem flagsChangeOnlyAtTheirEvents : Obligations.FlagsChangeOnlyAtTheirEvents := by
  unfold Obligations.FlagsChangeOnlyAtTheirEvents
  intro s t h
  have event := stepEvent_of_step h
  have busy : (s.busy = false → t.busy = true → ∃ c, s.writesNext .cmd c ∧ t.pend = some c) ∧
      (s.busy = true → t.busy = false → s.completionNext ∨ s.pinNext) := by
    apply flag_events
    obtain same | ⟨c, write, issued⟩ | ⟨ending, idle⟩ := event.pend
    · exact .inl (congrArg Option.isSome same)
    · exact .inr (.inl ⟨⟨c, write, issued⟩, congrArg Option.isSome issued⟩)
    · exact .inr (.inr ⟨ending, congrArg Option.isSome idle⟩)
  obtain ⟨busySet, busyCleared⟩ := busy
  obtain ⟨doneSet, doneCleared⟩ := flag_events event.done
  obtain ⟨ovrSet, ovrCleared⟩ := flag_events event.ovr
  obtain ⟨ksValidSet, ksValidCleared⟩ := flag_events event.ksValid
  exact ⟨busySet, busyCleared, doneSet, doneCleared, ovrSet, ovrCleared, ksValidSet, ksValidCleared,
    event.err.resolve_left⟩

end Sys2Proof.Machine
end

section
/-! PROOFS. The hidden State S influences nothing a host can see (R34, R163). -/

namespace Sys2Proof.Machine

/-- `s` with another hidden S and another counter of its free values. -/
def State.withHidden (s : State) (m : StateMatrix) (n : Nat) : State := { s with sMat := m, freeCount := n }

/-- `r'` answers a next state wherever `r` does, and the two states look the same. -/
def Mirrors (r r' : Result) : Prop := ∀ t, r = .next t → ∃ t', r' = .next t' ∧ t'.visible = t.visible

theorem mirrors_next {t t' : State} (h : t'.visible = t.visible) : Mirrors (.next t) (.next t') := by
  rintro _ ⟨rfl⟩
  exact ⟨t', rfl, h⟩

section
variable (s : State) (m : StateMatrix) (n : Nat)

@[simp] theorem withHidden_visible : (s.withHidden m n).visible = s.visible := rfl

theorem withHidden_writeReg (r : Reg) (v : Word) :
    (s.withHidden m n).writeReg r v = (s.writeReg r v).withHidden m n := by
  cases r <;> rfl

theorem withHidden_busWrite (a : Offset) (v : Word) :
    (s.withHidden m n).busWrite a v = (s.busWrite a v).withHidden m n := by
  have rst : (s.withHidden m n).rst = s.rst := rfl
  have busy : (s.withHidden m n).busy = s.busy := rfl
  simp only [State.busWrite, rst, busy]
  split_ifs
  · rfl
  · rfl
  · cases regAt a with
    | none => rfl
    | some r => exact withHidden_writeReg s m n r v

theorem withHidden_drivePin (level : Bool) :
    ((s.withHidden m n).drivePin level).visible = (s.drivePin level).visible := by
  unfold State.drivePin
  have same : (s.withHidden m n).isResetEvent level = s.isResetEvent level := rfl
  rw [same]
  split <;> rfl

theorem mirrors_expkey (k : Nat) : Mirrors (exec (.expkey k) s) (exec (.expkey k) (s.withHidden m n)) := by
  simp only [exec_expkey, expkeyBody]
  cases variant k <;> exact mirrors_next rfl

theorem mirrors_storedSchedule (f : Vector Word 4 → Vector Word 60 → Nat → Vector Word 4) (b : Nat) :
    Mirrors (completion s (storedScheduleBody f b s))
      (completion (s.withHidden m n) (storedScheduleBody f b (s.withHidden m n))) := by
  have same : (s.withHidden m n).ksValid = s.ksValid := rfl
  simp only [storedScheduleBody, same]
  split_ifs <;> exact mirrors_next rfl

theorem mirrors_facade (f : Vector Word 4 → Vector Word 60 → Nat → Vector Word 4) (k b : Nat) :
    Mirrors (completion s (facadeBody f k b s))
      (completion (s.withHidden m n) (facadeBody f k b (s.withHidden m n))) := by
  simp only [facadeBody]
  cases variant k with
  | none => exact mirrors_next rfl
  | some v =>
    dsimp only
    split_ifs <;> exact mirrors_next rfl

theorem mirrors_exec (i : Instr) : Mirrors (exec i s) (exec i (s.withHidden m n)) := by
  cases i with
  | expkey k => exact mirrors_expkey s m n k
  | enc b => exact mirrors_storedSchedule s m n cipher b
  | enck k b => exact mirrors_facade s m n cipher k b
  | dec b => exact mirrors_storedSchedule s m n invCipher b
  | deck k b => exact mirrors_facade s m n invCipher k b
  | nop | gfmul | gfexp | sbox | isbox | zeroize => exact mirrors_next rfl

theorem mirrors_coreTurn : Mirrors s.coreTurn (s.withHidden m n).coreTurn := by
  have rst : (s.withHidden m n).rst = s.rst := rfl
  have pend : (s.withHidden m n).pend = s.pend := rfl
  simp only [State.coreTurn, rst, pend]
  split_ifs
  · exact mirrors_next rfl
  · cases s.pend with
    | none => exact mirrors_next rfl
    | some c =>
      dsimp only
      cases decode c with
      | none => exact mirrors_next rfl
      | some i => exact mirrors_exec s m n i

theorem mirrors_takeTurn (x : Turn) : Mirrors (s.takeTurn x) ((s.withHidden m n).takeTurn x) := by
  cases x with
  | busRead a => exact mirrors_next rfl
  | busWrite a v => exact mirrors_next (by rw [withHidden_busWrite, withHidden_visible])
  | narrowAccess a w => rintro t ⟨⟩
  | coreStep => exact mirrors_coreTurn s m n
  | rst level => exact mirrors_next (withHidden_drivePin s m n level)

theorem mirrors_step : Mirrors (step s) (step (s.withHidden m n)) := by
  cases turn : s.turns with
  | nil =>
    rw [step_of_no_turn turn, step_of_no_turn (s := s.withHidden m n) turn]
    exact mirrors_coreTurn s m n
  | cons x rest =>
    rw [step_of_turn turn, step_of_turn (s := s.withHidden m n) turn]
    exact mirrors_takeTurn { s with turns := rest } m n x

end

/-- Settles O55: two states that differ only in what is hidden take every turn alike. -/
theorem hiddenStateIsNeverObserved : Obligations.HiddenStateIsNeverObserved := by
  unfold Obligations.HiddenStateIsNeverObserved
  exact fun s m n => mirrors_step s m n

end Sys2Proof.Machine
end

section
/-! PROOFS. The targets of a bus access that store nothing (R55): unmapped offsets, read-only registers and reserved bits. -/

namespace Sys2Proof.Machine

theorem readValue_of_unmapped (s : State) {a : Offset} (unmapped : regAt a = none) : s.readValue a = 0 := by
  simp [State.readValue, unmapped]

theorem busWrite_of_idle_of_unmapped {s : State} (idle : s.pend = none) {a : Offset} (unmapped : regAt a = none)
    (v : Word) : s.busWrite a v = s := by
  simp [State.busWrite, State.busy, idle, unmapped]

/-- The read-only registers (R27, R28, R30, R31). -/
theorem writeReg_of_readOnly (s : State) {r : Reg} (v : Word)
    (readOnly : r = .id ∨ r = .res ∨ (∃ j, r = .dout j) ∨ (∃ i, r = .rk i)) : s.writeReg r v = s := by
  obtain rfl | rfl | ⟨j, rfl⟩ | ⟨i, rfl⟩ := readOnly <;> rfl

theorem extractLsb'_setWidth_byte (b : Byte) : (b.setWidth 32).extractLsb' 8 24 = 0 := by
  apply BitVec.eq_of_getLsbD_eq
  intro i hi
  simp

theorem readReg_reserved (s : State) {r : Reg} (byteWide : r = .opa ∨ r = .opb ∨ r = .res) :
    (s.readReg r).extractLsb' 8 24 = 0 := by
  obtain rfl | rfl | rfl := byteWide <;> exact extractLsb'_setWidth_byte _

/-- A bus write sees of its value only what the register's own write sees. -/
theorem busWrite_congr {s : State} {a : Offset} {r : Reg} {v w : Word} (target : regAt a = some r)
    (same : s.writeReg r v = s.writeReg r w) : s.busWrite a v = s.busWrite a w := by
  simp only [State.busWrite, target, same]

theorem setWidth_and_lowByte (v : Word) : (v &&& 0xFF#32).setWidth 8 = v.setWidth 8 := by
  rw [BitVec.setWidth_and, show BitVec.setWidth 8 0xFF#32 = BitVec.allOnes 8 by decide, BitVec.and_allOnes]

theorem writeReg_and_lowByte (s : State) {r : Reg} (v : Word) (operand : r = .opa ∨ r = .opb) :
    s.writeReg r v = s.writeReg r (v &&& 0xFF#32) := by
  obtain rfl | rfl := operand <;> simp only [State.writeReg, setWidth_and_lowByte]

/-- Bits 1 and 2 are the W1C bits (R24). -/
theorem clearFlags_and_w1c (s : State) (v : Word) : s.clearFlags v = s.clearFlags (v &&& 0x6#32) := by
  simp [State.clearFlags]

/-- Only an issue writes ERR (R190). -/
theorem writeReg_err (s : State) {r : Reg} (v : Word) (other : r ≠ .cmd) : (s.writeReg r v).err = s.err := by
  cases r with
  | cmd => exact absurd rfl other
  | _ => rfl

theorem busWrite_err (s : State) (a : Offset) (v : Word) (noIssue : s.pend ≠ none ∨ regAt a ≠ some .cmd) :
    (s.busWrite a v).err = s.err := by
  obtain ⟨-, h⟩ | ⟨-, -, h⟩ | ⟨-, -, -, h⟩ | ⟨r, -, idle, target, h⟩ := busWrite_cases s a v <;> rw [h]
  · rfl
  · refine writeReg_err s v fun isCmd => ?_
    rw [target, isCmd] at noIssue
    exact noIssue.elim (absurd idle) (absurd rfl)

/-- Settles O8, one lemma for each kind of target. -/
theorem unmappedAndReadOnlyTargets : Obligations.UnmappedAndReadOnlyTargets := by
  unfold Obligations.UnmappedAndReadOnlyTargets
  intro s released
  refine ⟨fun a => readValue_of_unmapped s, rfl, fun idle a v unmapped => busWrite_of_idle_of_unmapped idle unmapped v,
    fun idle r v readOnly => ?_, ?_, fun r => readReg_reserved s, fun r v operand => ?_, fun v => ?_,
    fun busy a v => busWrite_of_busy released busy a v, fun a => rfl, busWrite_err s⟩
  · rw [busWrite_of_idle released idle (regAt_regOffset r), writeReg_of_readOnly s v readOnly]
  · obtain ⟨-, -, -, reserved⟩ := statusWord_fields s
    exact reserved
  · exact busWrite_congr (regAt_regOffset r) (writeReg_and_lowByte s v operand)
  · exact busWrite_congr (regAt_regOffset .status) (clearFlags_and_w1c s v)

end Sys2Proof.Machine
end

section
/-! PROOFS. What a turn answers (R52, R211), and host accesses while a command is pending (R60, R193). -/

namespace Sys2Proof.Machine

/-- Only a narrow access has no next state. -/
theorem takeTurn_next (s : State) {x : Turn} (wide : ∀ a w, x ≠ .narrowAccess a w) : ∃ t, s.takeTurn x = .next t := by
  cases x with
  | narrowAccess a w => exact absurd rfl (wide a w)
  | coreStep => exact coreTurn_next s
  | busRead | busWrite | rst => exact ⟨_, rfl⟩

/-- Settles O58, by the next turn of the list. -/
theorem onlyNarrowAccessIsRefused : Obligations.OnlyNarrowAccessIsRefused := by
  unfold Obligations.OnlyNarrowAccessIsRefused
  refine fun s => ⟨?_, fun wide => ?_⟩
  · rintro ⟨a, w, rest, turn⟩
    rw [step_of_turn turn]
    rfl
  · cases turn : s.turns with
    | nil =>
      rw [step_of_no_turn turn]
      exact coreTurn_next s
    | cons x rest =>
      rw [step_of_turn turn]
      exact takeTurn_next _ fun a w narrow => wide a w rest (narrow ▸ turn)

/-- `s` with what a host can change while a command is pending: OVR and the read data port. -/
def State.withPort (s : State) (ovr : Bool) (data : Word) : State := { s with ovr := ovr, readData := data }

/-- Both results are next states, the same but for OVR and the read data port. -/
def SameButPort (r r' : Result) : Prop := ∃ t ovr data, r = .next t ∧ r' = .next (t.withPort ovr data)

theorem sameButPort_next (t : State) (ovr : Bool) (data : Word) : SameButPort (.next t) (.next (t.withPort ovr data)) :=
  ⟨t, ovr, data, rfl, rfl⟩

section
variable (s : State) (ovr : Bool) (data : Word)

/-- A completion leaves OVR and the read data port as its body does. -/
theorem sameButPort_completion (body : Except ErrCode State) :
    SameButPort (completion s body) (completion (s.withPort ovr data) (body.map (·.withPort ovr data))) := by
  cases body with
  | ok t => exact sameButPort_next (t.complete .success) ovr data
  | error code => exact sameButPort_next (s.complete code) ovr data

theorem expkeyBody_withPort (k : Nat) :
    expkeyBody k (s.withPort ovr data) = (expkeyBody k s).map (·.withPort ovr data) := by
  unfold expkeyBody
  cases variant k <;> rfl

theorem storedScheduleBody_withPort (f : Vector Word 4 → Vector Word 60 → Nat → Vector Word 4) (b : Nat) :
    storedScheduleBody f b (s.withPort ovr data) = (storedScheduleBody f b s).map (·.withPort ovr data) := by
  have same : (s.withPort ovr data).ksValid = s.ksValid := rfl
  simp only [storedScheduleBody, same]
  split_ifs <;> rfl

theorem facadeBody_withPort (f : Vector Word 4 → Vector Word 60 → Nat → Vector Word 4) (k b : Nat) :
    facadeBody f k b (s.withPort ovr data) = (facadeBody f k b s).map (·.withPort ovr data) := by
  unfold facadeBody
  cases variant k with
  | none => rfl
  | some v =>
    dsimp only
    split_ifs <;> rfl

/-- A command reads neither OVR nor the read data port; ZEROIZE alone writes OVR (R196). -/
theorem sameButPort_exec (i : Instr) : SameButPort (exec i s) (exec i (s.withPort ovr data)) := by
  cases i with
  | expkey k =>
    rw [exec_expkey, exec_expkey, expkeyBody_withPort]
    exact sameButPort_completion s ovr data _
  | enc b =>
    rw [exec_enc, exec_enc, storedScheduleBody_withPort]
    exact sameButPort_completion s ovr data _
  | enck k b =>
    rw [exec_enck, exec_enck, facadeBody_withPort]
    exact sameButPort_completion s ovr data _
  | dec b =>
    rw [exec_dec, exec_dec, storedScheduleBody_withPort]
    exact sameButPort_completion s ovr data _
  | deck k b =>
    rw [exec_deck, exec_deck, facadeBody_withPort]
    exact sameButPort_completion s ovr data _
  | zeroize => exact sameButPort_next (s.zeroized.complete .success) false data
  | nop => exact sameButPort_completion s ovr data (.ok s)
  | gfmul | gfexp | sbox | isbox => exact sameButPort_completion s ovr data (.ok (s.setRes _))

theorem sameButPort_coreTurn : SameButPort s.coreTurn (s.withPort ovr data).coreTurn := by
  have rst : (s.withPort ovr data).rst = s.rst := rfl
  have pend : (s.withPort ovr data).pend = s.pend := rfl
  simp only [State.coreTurn, rst, pend]
  split_ifs
  · exact sameButPort_next s ovr data
  · cases s.pend with
    | none => exact sameButPort_next s ovr data
    | some c =>
      dsimp only
      cases decode c with
      | none => exact sameButPort_completion s ovr data (.error .illegalCommand)
      | some i => exact sameButPort_exec s ovr data i

end

/-- While a command is pending a bus access changes OVR and the read data port only (R193, R194). -/
theorem takeTurn_of_busy {s : State} (released : s.rst = false) (busy : s.pend ≠ none) {x : Turn}
    (access : x.isBusAccess = true) : ∃ ovr data, s.takeTurn x = .next (s.withPort ovr data) := by
  cases x with
  | busRead a => exact ⟨s.ovr, s.readValue a, rfl⟩
  | busWrite a v => exact ⟨true, s.readData, congrArg _ (busWrite_of_busy released busy a v)⟩
  | narrowAccess | coreStep | rst => cases access

/-- The same for a sequence of accesses, before whatever the other turns bring. -/
theorem run_accesses_of_busy (k : Nat) (rest : List Turn) {accesses : List Turn}
    (access : ∀ x ∈ accesses, x.isBusAccess = true) {s : State} (released : s.rst = false) (busy : s.pend ≠ none) :
    ∃ ovr data, Host.Core.run Sys2Proof.core (accesses.length + k) { s with turns := accesses ++ rest } =
      Host.Core.run Sys2Proof.core k (({ s with turns := rest } : State).withPort ovr data) := by
  induction accesses generalizing s with
  | nil => exact ⟨s.ovr, s.readData, by rw [List.length_nil, Nat.zero_add]; rfl⟩
  | cons x xs ih =>
    obtain ⟨accessHead, accessTail⟩ := List.forall_mem_cons.mp access
    obtain ⟨ovr, data, turn⟩ := takeTurn_of_busy (s := { s with turns := xs ++ rest }) released busy accessHead
    obtain ⟨ovr', data', run⟩ := ih accessTail (s := s.withPort ovr data) released busy
    refine ⟨ovr', data', ?_⟩
    calc Host.Core.run Sys2Proof.core ((x :: xs).length + k) { s with turns := x :: xs ++ rest }
      _ = Host.Core.run Sys2Proof.core (xs.length + k + 1) { s with turns := x :: (xs ++ rest) } := by
        rw [List.length_cons, Nat.add_right_comm, List.cons_append]
      _ = Host.Core.run Sys2Proof.core (xs.length + k) { s.withPort ovr data with turns := xs ++ rest } :=
        run_next _ ((step_of_turn rfl).trans turn)
      _ = Host.Core.run Sys2Proof.core k (({ s with turns := rest } : State).withPort ovr' data') := run

theorem step_of_coreStep {s : State} {rest : List Turn} (turn : s.turns = .coreStep :: rest) :
    step s = ({ s with turns := rest } : State).coreTurn :=
  step_of_turn turn

/-- Settles O56: the accesses leave the state the completion starts from, but for OVR and the read data port, and the completion
reads neither. -/
theorem hostCannotDisturbPendingCommand : Obligations.HostCannotDisturbPendingCommand := by
  unfold Obligations.HostCannotDisturbPendingCommand
  intro s accesses rest released busy access
  obtain ⟨ovr, data, run⟩ := run_accesses_of_busy 1 (.coreStep :: rest) access released busy
  obtain ⟨t, ovr', data', direct, delayed⟩ := sameButPort_coreTurn { s with turns := rest } ovr data
  have completes : step (({ s with turns := .coreStep :: rest } : State).withPort ovr data) =
      .next (t.withPort ovr' data') :=
    (step_of_coreStep rfl).trans delayed
  refine ⟨t, t.withPort ovr' data', (step_of_coreStep rfl).trans direct, ?_, rfl⟩
  rw [run, run_next 0 completes, run_zero]

end Sys2Proof.Machine
end

section
/-! PROOFS. Command words (R70 to R74, R79): the rows are disjoint, decode and encode are inverse, and the illegal words. -/

namespace Sys2Proof

/-! ## The rows of R72 -/

theorem Row.matches_iff (r : Row) (c : Word) : r.matches c = true ↔ c &&& r.mask = r.pattern := beq_iff_eq

/-- Two rows differ in a bit that both masks contain (R72). -/
def Row.Clashes (r r' : Row) : Prop := r.pattern &&& r'.mask ≠ r'.pattern &&& r.mask

theorem rows_pairwise_clash : rows.Pairwise Row.Clashes := by
  unfold rows Row.Clashes
  decide

theorem Row.Clashes.not_both_match {r r' : Row} (clash : r.Clashes r') {c : Word} (h : r.matches c = true)
    (h' : r'.matches c = true) : False := by
  rw [Row.matches_iff] at h h'
  apply clash
  calc r.pattern &&& r'.mask
    _ = c &&& (r.mask &&& r'.mask) := by rw [← h, BitVec.and_assoc]
    _ = r'.pattern &&& r.mask := by rw [← h', BitVec.and_assoc, BitVec.and_comm r.mask]

/-- Settles O4: two rows that match the same word would not clash. -/
theorem noWordMatchesTwoRows : Obligations.NoWordMatchesTwoRows := by
  unfold Obligations.NoWordMatchesTwoRows
  intro c
  have noPair : (rows.filter (fun r => r.matches c)).Pairwise (fun _ _ => False) :=
    (rows_pairwise_clash.filter _).imp_of_mem fun mem mem' clash =>
      clash.not_both_match (List.mem_filter.mp mem).2 (List.mem_filter.mp mem').2
  cases h : rows.filter (fun r => r.matches c) with
  | nil => exact Nat.zero_le 1
  | cons r rest =>
    cases rest with
    | nil => exact le_rfl
    | cons r' rest =>
      rw [h] at noPair
      exact (List.rel_of_pairwise_cons noPair (List.mem_cons_self ..)).elim

theorem eq_of_matches {r r' : Row} (mem : r ∈ rows) (mem' : r' ∈ rows) {c : Word} (h : r.matches c = true)
    (h' : r'.matches c = true) : r = r' := by
  have symmetric : Std.Symm Row.Clashes := ⟨fun _ _ => Ne.symm⟩
  by_contra different
  exact (rows_pairwise_clash.forall mem mem' different).not_both_match h h'

theorem matches_of_decode {c : Word} {i : Instr} (h : decode c = some i) :
    ∃ r ∈ rows, r.matches c = true ∧ r.command c = i := by
  obtain ⟨r, found, command⟩ := Option.map_eq_some_iff.mp h
  have matched := List.find?_some found
  exact ⟨r, List.mem_of_find?_eq_some found, matched, command⟩

theorem decode_eq_none_iff (c : Word) : decode c = none ↔ ∀ r ∈ rows, r.matches c = false := by
  simp [decode]

/-- The row that matches gives the command, wherever it stands in the table. -/
theorem decode_of_matches {r : Row} (mem : r ∈ rows) {c : Word} (h : r.matches c = true) :
    decode c = some (r.command c) := by
  cases decoded : decode c with
  | none => exact absurd h (by simp [(decode_eq_none_iff c).mp decoded r mem])
  | some i =>
    obtain ⟨r', mem', h', rfl⟩ := matches_of_decode decoded
    rw [eq_of_matches mem mem' h h']

/-! ## The length fields -/

theorem klenField_lt (c : Word) : klenField c < 64 := BitVec.isLt _

theorem blenField_lt (c : Word) : blenField c < 64 := BitVec.isLt _

/-- A field put back at its place is the word under the field's mask. -/
theorem extractLsb'_shiftLeft (c : Word) (start len : Nat) :
    (c.extractLsb' start len).setWidth 32 <<< start = c &&& (BitVec.allOnes len).setWidth 32 <<< start := by
  apply BitVec.eq_of_getLsbD_eq
  intro i hi
  by_cases below : i < start
  · simp [below]
  · simp [below, hi, Nat.add_sub_cancel' (not_lt.mp below), Bool.and_comm]

theorem klenBits_klenField (c : Word) : klenBits (klenField c) = c &&& 0x3F00#32 := by
  rw [klenBits, klenField, BitVec.ofNat_toNat, extractLsb'_shiftLeft]
  rfl

theorem blenBits_blenField (c : Word) : blenBits (blenField c) = c &&& 0x3F0000#32 := by
  rw [blenBits, blenField, BitVec.ofNat_toNat, extractLsb'_shiftLeft]
  rfl

theorem klenField_or (c d : Word) : klenField (c ||| d) = klenField c ||| klenField d := by
  rw [klenField, BitVec.extractLsb'_or, BitVec.toNat_or]
  rfl

theorem blenField_or (c d : Word) : blenField (c ||| d) = blenField c ||| blenField d := by
  rw [blenField, BitVec.extractLsb'_or, BitVec.toNat_or]
  rfl

section
variable {klen blen : Nat}

theorem klenField_klenBits (h : klen < 64) : klenField (klenBits klen) = klen := by
  simp [klenField, klenBits]
  omega

theorem blenField_blenBits (h : blen < 64) : blenField (blenBits blen) = blen := by
  simp [blenField, blenBits]
  omega

theorem klenField_or_klenBits {c : Word} (clear : klenField c = 0) (h : klen < 64) :
    klenField (c ||| klenBits klen) = klen := by
  rw [klenField_or, clear, klenField_klenBits h, Nat.zero_or]

theorem blenField_or_blenBits {c : Word} (clear : blenField c = 0) (h : blen < 64) :
    blenField (c ||| blenBits blen) = blen := by
  rw [blenField_or, clear, blenField_blenBits h, Nat.zero_or]

theorem klenField_or_blenBits (c : Word) : klenField (c ||| blenBits blen) = klenField c := by
  have apart : klenField (blenBits blen) = 0 := by
    simp [klenField, blenBits]
    omega
  rw [klenField_or, apart, Nat.or_zero]

theorem blenField_or_klenBits (c : Word) (h : klen < 64) : blenField (c ||| klenBits klen) = blenField c := by
  have apart : blenField (klenBits klen) = 0 := by
    simp [blenField, klenBits]
    omega
  rw [blenField_or, apart, Nat.or_zero]

/-- A word that R79 builds from two lengths has them in its length fields. -/
theorem lengthFields_or {c : Word} (clearK : klenField c = 0) (clearB : blenField c = 0) (hk : klen < 64)
    (hb : blen < 64) :
    klenField (c ||| klenBits klen ||| blenBits blen) = klen ∧
      blenField (c ||| klenBits klen ||| blenBits blen) = blen :=
  ⟨by rw [klenField_or_blenBits, klenField_or_klenBits clearK hk],
    blenField_or_blenBits (by rw [blenField_or_klenBits c hk, clearB]) hb⟩

end

/-! ## Decode and encode -/

/-- The word of a row's command is the row's pattern with the bits of the word that the mask leaves free. -/
theorem encode_command {r : Row} (mem : r ∈ rows) (c : Word) :
    encode (r.command c) = r.pattern ||| (c &&& ~~~r.mask) := by
  revert r
  simp [rows, encode, klenBits_klenField, blenBits_blenField, BitVec.or_assoc, ← BitVec.and_or_distrib_left]

theorem pattern_and_mask {r : Row} (mem : r ∈ rows) : r.pattern &&& r.mask = r.pattern := by
  revert r
  simp [rows]

/-- A row matches exactly the words of its command (R72, R79). -/
theorem matches_iff_encode_command {r : Row} (mem : r ∈ rows) (c : Word) :
    r.matches c = true ↔ encode (r.command c) = c := by
  rw [Row.matches_iff, encode_command mem]
  constructor <;> intro h
  · calc r.pattern ||| (c &&& ~~~r.mask)
      _ = c &&& (r.mask ||| ~~~r.mask) := by rw [← h, BitVec.and_or_distrib_left]
      _ = c := by rw [BitVec.or_not_self, BitVec.and_allOnes]
  · calc c &&& r.mask
      _ = (r.pattern ||| (c &&& ~~~r.mask)) &&& r.mask := by rw [h]
      _ = r.pattern := by simp [BitVec.and_or_distrib_right, BitVec.and_assoc, pattern_and_mask mem]

theorem command_wellFormed {r : Row} (mem : r ∈ rows) (c : Word) : (r.command c).wellFormed = true := by
  revert r
  simp [rows, Instr.wellFormed, lengthFits, klenField_lt, blenField_lt]

/-- Settles O3: the row that matches determines the word. -/
theorem encodeOfDecode : Obligations.EncodeOfDecode := by
  unfold Obligations.EncodeOfDecode
  intro c i decoded
  obtain ⟨r, mem, matched, rfl⟩ := matches_of_decode decoded
  exact ⟨command_wellFormed mem c, (matches_iff_encode_command mem c).mp matched⟩

theorem lengths_fit {klen blen : Nat} (h : (lengthFits klen && lengthFits blen) = true) : klen < 64 ∧ blen < 64 := by
  simpa [lengthFits] using h

theorem exists_row_command_encode {i : Instr} (wellFormed : i.wellFormed = true) :
    ∃ r ∈ rows, r.command (encode i) = i := by
  cases i with
  | nop => exact ⟨rows[0], List.getElem_mem _, rfl⟩
  | expkey klen =>
    have fits : klen < 64 := of_decide_eq_true wellFormed
    exact ⟨rows[1], List.getElem_mem _, congrArg Instr.expkey (klenField_or_klenBits rfl fits)⟩
  | enc blen =>
    have fits : blen < 64 := of_decide_eq_true wellFormed
    exact ⟨rows[2], List.getElem_mem _, congrArg Instr.enc (blenField_or_blenBits rfl fits)⟩
  | enck klen blen =>
    obtain ⟨fitsK, fitsB⟩ := lengths_fit wellFormed
    obtain ⟨hk, hb⟩ := lengthFields_or (c := 0x82#32) rfl rfl fitsK fitsB
    exact ⟨rows[3], List.getElem_mem _, congrArg₂ Instr.enck hk hb⟩
  | dec blen =>
    have fits : blen < 64 := of_decide_eq_true wellFormed
    exact ⟨rows[4], List.getElem_mem _, congrArg Instr.dec (blenField_or_blenBits rfl fits)⟩
  | deck klen blen =>
    obtain ⟨fitsK, fitsB⟩ := lengths_fit wellFormed
    obtain ⟨hk, hb⟩ := lengthFields_or (c := 0x83#32) rfl rfl fitsK fitsB
    exact ⟨rows[5], List.getElem_mem _, congrArg₂ Instr.deck hk hb⟩
  | gfmul => exact ⟨rows[6], List.getElem_mem _, rfl⟩
  | gfexp => exact ⟨rows[7], List.getElem_mem _, rfl⟩
  | sbox => exact ⟨rows[8], List.getElem_mem _, rfl⟩
  | isbox => exact ⟨rows[9], List.getElem_mem _, rfl⟩
  | zeroize => exact ⟨rows[10], List.getElem_mem _, rfl⟩

/-- Settles O2: the row whose command the word stands for matches the word, and no other row does. -/
theorem decodeOfEncode : Obligations.DecodeOfEncode := by
  unfold Obligations.DecodeOfEncode
  intro i wellFormed
  obtain ⟨r, mem, command⟩ := exists_row_command_encode wellFormed
  rw [decode_of_matches mem ((matches_iff_encode_command mem _).mpr (congrArg encode command)), command]

/-! ## The rows by their fields -/

theorem getLsbD_eq_of_extractLsb'_eq {c d : Word} {start len i : Nat}
    (same : c.extractLsb' start len = d.extractLsb' start len) (lower : start ≤ i) (upper : i < start + len) :
    c.getLsbD i = d.getLsbD i := by
  have bit := congrArg (·.getLsbD (i - start)) same
  simpa [show i - start < len by omega, Nat.add_sub_cancel' lower] using bit

/-- RSV is three parts of the word (R71). -/
theorem rsvField_parts {c d : Word} (same : rsvField c = rsvField d) :
    c.extractLsb' 22 10 = d.extractLsb' 22 10 ∧ c.extractLsb' 14 2 = d.extractLsb' 14 2 ∧
      c.extractLsb' 4 3 = d.extractLsb' 4 3 := by
  have upper := congrArg (BitVec.extractLsb' 3 12) same
  have low := congrArg (BitVec.extractLsb' 0 3) same
  simp only [rsvField, BitVec.extractLsb'_append_eq_left, BitVec.extractLsb'_append_eq_right] at upper low
  have high := congrArg (BitVec.extractLsb' 2 10) upper
  have middle := congrArg (BitVec.extractLsb' 0 2) upper
  simp only [BitVec.extractLsb'_append_eq_left, BitVec.extractLsb'_append_eq_right] at high middle
  exact ⟨high, middle, low⟩

/-- The fields of R71 are all the bits of a word. -/
theorem word_eq_of_fields {c d : Word} (op : opField c = opField d) (k : kField c = kField d)
    (klen : klenField c = klenField d) (blen : blenField c = blenField d) (rsv : rsvField c = rsvField d) : c = d := by
  obtain ⟨high, middle, low⟩ := rsvField_parts rsv
  apply BitVec.eq_of_getLsbD_eq
  intro i hi
  obtain h | h | rfl | h | h | h | h : i < 4 ∨ (4 ≤ i ∧ i < 7) ∨ i = 7 ∨ (8 ≤ i ∧ i < 14) ∨ (14 ≤ i ∧ i < 16) ∨
    (16 ≤ i ∧ i < 22) ∨ (22 ≤ i ∧ i < 32) := by omega
  · exact getLsbD_eq_of_extractLsb'_eq op (Nat.zero_le i) (by omega)
  · exact getLsbD_eq_of_extractLsb'_eq low h.1 h.2
  · exact k
  · exact getLsbD_eq_of_extractLsb'_eq (BitVec.eq_of_toNat_eq klen) h.1 h.2
  · exact getLsbD_eq_of_extractLsb'_eq middle h.1 h.2
  · exact getLsbD_eq_of_extractLsb'_eq (BitVec.eq_of_toNat_eq blen) h.1 h.2
  · exact getLsbD_eq_of_extractLsb'_eq high h.1 h.2

theorem opField_and (c d : Word) : opField (c &&& d) = opField c &&& opField d := BitVec.extractLsb'_and

theorem kField_and (c d : Word) : kField (c &&& d) = (kField c && kField d) := BitVec.getLsbD_and

theorem klenField_and (c d : Word) : klenField (c &&& d) = klenField c &&& klenField d := by
  rw [klenField, BitVec.extractLsb'_and, BitVec.toNat_and]
  rfl

theorem blenField_and (c d : Word) : blenField (c &&& d) = blenField c &&& blenField d := by
  rw [blenField, BitVec.extractLsb'_and, BitVec.toNat_and]
  rfl

theorem rsvField_and (c d : Word) : rsvField (c &&& d) = rsvField c &&& rsvField d := by
  simp only [rsvField, BitVec.extractLsb'_and]
  rw [BitVec.and_append, BitVec.and_append]

theorem and_eq_iff_fields (c mask pattern : Word) :
    c &&& mask = pattern ↔ opField c &&& opField mask = opField pattern ∧ (kField c && kField mask) = kField pattern ∧
      klenField c &&& klenField mask = klenField pattern ∧ blenField c &&& blenField mask = blenField pattern ∧
      rsvField c &&& rsvField mask = rsvField pattern := by
  rw [← opField_and, ← kField_and, ← klenField_and, ← blenField_and, ← rsvField_and]
  constructor
  · rintro rfl
    exact ⟨rfl, rfl, rfl, rfl, rfl⟩
  · rintro ⟨op, k, klen, blen, rsv⟩
    exact word_eq_of_fields op k klen blen rsv

/-- Every row fixes OP, K and RSV; it leaves each length field free or fixes it, and then to 0 (R72). -/
theorem row_fields {r : Row} (mem : r ∈ rows) :
    (opField r.mask = BitVec.allOnes 4 ∧ kField r.mask = true ∧ rsvField r.mask = BitVec.allOnes 15 ∧
      (klenField r.mask = 0 ∨ klenField r.mask = 63) ∧ (blenField r.mask = 0 ∨ blenField r.mask = 63)) ∧
    klenField r.pattern = 0 ∧ blenField r.pattern = 0 ∧ rsvField r.pattern = 0 := by
  revert r
  unfold rows
  decide

theorem and_length_mask {n mask : Nat} (fits : n < 64) (h : mask = 0 ∨ mask = 63) :
    n &&& mask = 0 ↔ mask = 0 ∨ n = 0 := by
  obtain rfl | rfl := h
  · simp
  · have whole : n &&& 63 = n := Nat.and_two_pow_sub_one_of_lt_two_pow (n := 6) fits
    simp [whole]

/-- R72 by its columns: a word with these OP and K, and with KLEN, BLEN and RSV zero or not, has the row's fixed fields. -/
def Row.admits (r : Row) (op : BitVec 4) (k klenZero blenZero rsvZero : Bool) : Bool :=
  op == opField r.pattern && k == kField r.pattern && (klenField r.mask == 0 || klenZero) &&
    (blenField r.mask == 0 || blenZero) && rsvZero

theorem matches_eq_admits {r : Row} (mem : r ∈ rows) (c : Word) :
    r.matches c = r.admits (opField c) (kField c) (klenField c == 0) (blenField c == 0) (rsvField c == 0) := by
  obtain ⟨⟨op, k, rsv, klen, blen⟩, klenZero, blenZero, rsvZero⟩ := row_fields mem
  rw [Bool.eq_iff_iff, Row.matches_iff, and_eq_iff_fields, op, k, rsv, klenZero, blenZero, rsvZero,
    and_length_mask (klenField_lt c) klen, and_length_mask (blenField_lt c) blen]
  simp only [Row.admits, BitVec.and_allOnes, Bool.and_true, Bool.and_eq_true, Bool.or_eq_true, beq_iff_eq, and_assoc]

/-! ## The illegal words of R74 -/

/-- R74 from the table. A word with RSV ≠ 0 is in no row; the others are told apart by OP, K and which lengths are 0. -/
theorem no_row_admits_iff (op : BitVec 4) (k klenZero blenZero rsvZero : Bool) :
    (∀ r ∈ rows, r.admits op k klenZero blenZero rsvZero = false) ↔
      9#4 ≤ op ∨ rsvZero = false ∨ (k = true ∧ op ≠ 2 ∧ op ≠ 3) ∨
        ((op = 2 ∨ op = 3) ∧ k = false ∧ klenZero = false) ∨ (op = 1 ∧ blenZero = false) ∨
        ((op = 0 ∨ (4#4 ≤ op ∧ op ≤ 8#4)) ∧ (klenZero = false ∨ blenZero = false)) := by
  cases rsvZero with
  | false => simp [Row.admits]
  | true =>
    revert op k klenZero blenZero
    decide

theorem decode_eq_none_iff_illegal (c : Word) :
    decode c = none ↔
      9#4 ≤ opField c ∨ rsvField c ≠ 0 ∨ (kField c = true ∧ opField c ≠ 2 ∧ opField c ≠ 3) ∨
        ((opField c = 2 ∨ opField c = 3) ∧ kField c = false ∧ klenField c ≠ 0) ∨ (opField c = 1 ∧ blenField c ≠ 0) ∨
        ((opField c = 0 ∨ (4#4 ≤ opField c ∧ opField c ≤ 8#4)) ∧ (klenField c ≠ 0 ∨ blenField c ≠ 0)) := by
  rw [decode_eq_none_iff, forall₂_congr fun r mem => by rw [matches_eq_admits mem], no_row_admits_iff]
  simp only [beq_eq_false_iff_ne]

end Sys2Proof

namespace Sys2Proof.Machine

theorem coreTurn_of_illegal {s : State} {c : Word} (released : s.rst = false) (pending : s.pend = some c)
    (illegal : decode c = none) : s.coreTurn = .next (s.complete .illegalCommand) := by
  simp [State.coreTurn, released, pending, illegal, completeIllegal]

/-- Settles O5: the clauses are the complement of the table, and the core's turn completes such a word with ERR = 3. -/
theorem illegalWordsAreTheListedSix : Obligations.IllegalWordsAreTheListedSix := by
  unfold Obligations.IllegalWordsAreTheListedSix
  refine fun c => ⟨decode_eq_none_iff_illegal c, fun illegal s released pending => ⟨fun noTurn => ?_, fun rest turn => ?_⟩⟩
  · rw [step_of_no_turn noTurn, coreTurn_of_illegal released pending illegal]
    rfl
  · rw [step_of_coreStep turn, coreTurn_of_illegal (s := { s with turns := rest }) released pending illegal]
    rfl

/-- Settles O6: fourteen fixed words. -/
theorem tableWordsDecode : Obligations.TableWordsDecode := by
  unfold Obligations.TableWordsDecode
  decide

end Sys2Proof.Machine
end

section
/-! PROOFS. What a command leaves unchanged in the window (R78). -/

namespace Sys2Proof.Machine

/-- The commands whose result goes to RES (R78). -/
def WritesRes (i : Instr) : Prop := i = .gfmul ∨ i = .gfexp ∨ i = .sbox ∨ i = .isbox

/-- The commands whose result goes to DOUT (R78). -/
def WritesDout (i : Instr) : Prop := ∃ k b, i = .enc b ∨ i = .dec b ∨ i = .enck k b ∨ i = .deck k b

/-- The commands whose result goes to the schedule (R78). -/
def WritesSchedule (i : Instr) : Prop := ∃ k b, i = .expkey k ∨ i = .enck k b ∨ i = .deck k b

section
variable {s t : State} {i : Instr}

theorem CommandEffect.res (e : CommandEffect s i t) (other : i ≠ .zeroize) : WritesRes i ∨ t.res = s.res := by
  cases e with
  | result i b gf => exact .inl gf
  | zeroized => exact absurd rfl other
  | _ => exact .inr rfl

/-- A cipher command writes DOUT and leaves a free value in S (log 5); the others touch neither. -/
theorem CommandEffect.dout (e : CommandEffect s i t) (other : i ≠ .zeroize) :
    WritesDout i ∨ (t.dout = s.dout ∧ t.sMat = s.sMat ∧ t.freeCount = s.freeCount) := by
  cases e with
  | ciphered i b out cipher => exact .inl ⟨0, b, cipher.elim .inl (.inr ∘ .inl)⟩
  | facade i k b v out cipher => exact .inl ⟨k, b, .inr (.inr cipher)⟩
  | zeroized => exact absurd rfl other
  | _ => exact .inr ⟨rfl, rfl, rfl⟩

theorem CommandEffect.sameSchedule (e : CommandEffect s i t) (other : i ≠ .zeroize) :
    WritesSchedule i ∨ s.SameSchedule t := by
  obtain same | ⟨zeroize, -⟩ | ⟨⟨-, expands⟩, -⟩ := e.schedule
  · exact .inr same
  · exact absurd zeroize other
  · exact .inl expands

theorem CommandEffect.turns (e : CommandEffect s i t) : t.turns = s.turns := by
  cases e <;> rfl

theorem CommandEffect.readData (e : CommandEffect s i t) : t.readData = s.readData := by
  cases e <;> rfl

/-- A command but ZEROIZE changes STATUS and its own result registers, no other register of the window. -/
theorem CommandEffect.readReg (e : CommandEffect s i t) (other : i ≠ .zeroize) {r : Reg} (status : r ≠ .status)
    (res : WritesRes i → r ≠ .res) (dout : WritesDout i → ∀ j, r ≠ .dout j) (rk : WritesSchedule i → ∀ k, r ≠ .rk k) :
    t.readReg r = s.readReg r := by
  obtain ⟨key, din, opa, opb⟩ := e.inputs.resolve_left other
  cases r with
  | cmd | id => rfl
  | status => exact absurd rfl status
  | key j => exact congrArg (·[j]) key
  | din j => exact congrArg (·[j]) din
  | opa => exact congrArg (·.setWidth 32) opa
  | opb => exact congrArg (·.setWidth 32) opb
  | res => exact congrArg (·.setWidth 32) ((e.res other).resolve_left fun writes => res writes rfl)
  | dout j =>
    obtain ⟨same, -⟩ := (e.dout other).resolve_left fun writes => dout writes j rfl
    exact congrArg (·[j]) same
  | rk k =>
    obtain ⟨same, -⟩ := (e.sameSchedule other).resolve_left fun writes => rk writes k rfl
    exact congrArg (·[k]) same

end

/-- The frame of R78 for the command as it completes. -/
theorem exec_frame {i : Instr} (other : i ≠ .zeroize) (s : State) :
    ∃ t, exec i s = .next t ∧ ∀ r, r ≠ .status → (WritesRes i → r ≠ .res) → (WritesDout i → ∀ j, r ≠ .dout j) →
      (WritesSchedule i → ∀ k, r ≠ .rk k) → t.readReg r = s.readReg r := by
  obtain ⟨t, h⟩ := exec_next i s
  exact ⟨t, h, fun r => (commandEffect_of_exec h).readReg other⟩

/-- The frame of R78 outside the window. -/
theorem exec_flags_frame {i : Instr} (other : i ≠ .zeroize) (s : State) :
    ∃ t, exec i s = .next t ∧ t.ovr = s.ovr ∧ t.rst = s.rst ∧ t.turns = s.turns ∧ t.readData = s.readData ∧
      (¬ WritesSchedule i → t.ksValid = s.ksValid ∧ t.nk = s.nk ∧ t.nr = s.nr) ∧
      (¬ WritesDout i → t.sMat = s.sMat ∧ t.freeCount = s.freeCount) := by
  obtain ⟨t, h⟩ := exec_next i s
  have e := commandEffect_of_exec h
  refine ⟨t, h, e.ovr.resolve_right fun zeroize => other zeroize.1, e.rst, e.turns, e.readData, fun kept => ?_,
    fun kept => ?_⟩
  · obtain ⟨-, flags⟩ := (e.sameSchedule other).resolve_left kept
    exact flags
  · obtain ⟨-, hidden⟩ := (e.dout other).resolve_left kept
    exact hidden

/-- Settles O31: the command's effect gives the frame; each clause names the results its commands do not write. -/
theorem commandFrame : Obligations.CommandFrame := by
  unfold Obligations.CommandFrame
  refine ⟨fun s => ?_, fun i s gf => ?_, fun k s => ?_, fun i s cipher => ?_, fun i s facade => ?_, fun i s other => ?_⟩
  · obtain ⟨t, h, frame⟩ := exec_frame (i := .nop) (by decide) s
    exact ⟨t, h, fun r status =>
      frame r status (by simp [WritesRes]) (by simp [WritesDout]) (by simp [WritesSchedule])⟩
  · have dout : ¬ WritesDout i := by obtain rfl | rfl | rfl | rfl := gf <;> simp [WritesDout]
    have schedule : ¬ WritesSchedule i := by obtain rfl | rfl | rfl | rfl := gf <;> simp [WritesSchedule]
    have other : i ≠ .zeroize := by obtain rfl | rfl | rfl | rfl := gf <;> decide
    obtain ⟨t, h, frame⟩ := exec_frame other s
    exact ⟨t, h, fun r status res => frame r status (fun _ => res) (absurd · dout) (absurd · schedule)⟩
  · obtain ⟨t, h, frame⟩ := exec_frame (i := .expkey k) (by simp) s
    exact ⟨t, h, fun r status rk => frame r status (by simp [WritesRes]) (by simp [WritesDout]) fun _ => rk⟩
  · have res : ¬ WritesRes i := by obtain ⟨b, rfl | rfl⟩ := cipher <;> simp [WritesRes]
    have schedule : ¬ WritesSchedule i := by obtain ⟨b, rfl | rfl⟩ := cipher <;> simp [WritesSchedule]
    have other : i ≠ .zeroize := by obtain ⟨b, rfl | rfl⟩ := cipher <;> simp
    obtain ⟨t, h, frame⟩ := exec_frame other s
    exact ⟨t, h, fun r status dout => frame r status (absurd · res) (fun _ => dout) (absurd · schedule)⟩
  · have res : ¬ WritesRes i := by obtain ⟨k, b, rfl | rfl⟩ := facade <;> simp [WritesRes]
    have other : i ≠ .zeroize := by obtain ⟨k, b, rfl | rfl⟩ := facade <;> simp
    obtain ⟨t, h, frame⟩ := exec_frame other s
    exact ⟨t, h, fun r status dout rk => frame r status (absurd · res) (fun _ => dout) (fun _ => rk)⟩
  · obtain ⟨t, h, ovr, rst, turns, readData, schedule, hidden⟩ := exec_flags_frame other s
    refine ⟨t, h, ovr, rst, turns, readData, fun kept => schedule ?_, fun kept => hidden ?_⟩
    · rintro ⟨k, b, writes⟩
      obtain ⟨expkey, enck, deck⟩ := kept k b
      exact writes.elim expkey (·.elim enck deck)
    · rintro ⟨k, b, writes⟩
      obtain ⟨enc, dec, enck, deck⟩ := kept k b
      exact writes.elim enc (·.elim dec (·.elim enck deck))

end Sys2Proof.Machine
end

section
/-! PROOFS. GF(2^8): every byte is made from 00 and 01 by xtime and XOR (R91), so a law that holds of 00 and 01 and is kept by
xtime and XOR holds of every byte. From it the laws of gf28_mult (R92), of gf28_exp (R94) and of gf_inv (R95, R117), and with
them GFMUL and GFEXP (R100, R101). -/

namespace Sys2Proof.Machine

/-! ## xtime -/

theorem xtime_eq (a : Byte) : xtime a = a <<< 1 ^^^ if a.msb then 0x1B#8 else 0x00#8 := by
  revert a
  decide

theorem xtime_xor (a b : Byte) : xtime (a ^^^ b) = xtime a ^^^ xtime b := by
  have reduction : (if a.msb ^^ b.msb then 0x1B#8 else 0x00#8) =
      (if a.msb then 0x1B#8 else 0x00#8) ^^^ if b.msb then 0x1B#8 else 0x00#8 := by
    cases a.msb <;> cases b.msb <;> rfl
  rw [xtime_eq, xtime_eq a, xtime_eq b, BitVec.shiftLeft_xor_distrib, BitVec.msb_xor, reduction]
  ac_rfl

@[simp] theorem xtime_zero : xtime 0x00#8 = 0x00#8 := by decide

/-! ## The loop of gf28_mult, from any p and x and over any list of bits -/

section
variable (a b c p q x y : Byte) (bits : List Nat)

theorem gfMultLoop_xor_left :
    (bits.foldl (gfMultPass b) (p ^^^ q, x ^^^ y)).1 =
      (bits.foldl (gfMultPass b) (p, x)).1 ^^^ (bits.foldl (gfMultPass b) (q, y)).1 := by
  induction bits generalizing p q x y with
  | nil => rfl
  | cons i rest ih =>
    simp only [List.foldl_cons, gfMultPass, xtime_xor, ← ih]
    cases b.getLsbD i with
    | false => rfl
    | true => simp only [if_true]; ac_rfl

theorem gfMultLoop_xor_right :
    (bits.foldl (gfMultPass (b ^^^ c)) (p ^^^ q, x)).1 =
      (bits.foldl (gfMultPass b) (p, x)).1 ^^^ (bits.foldl (gfMultPass c) (q, x)).1 := by
  induction bits generalizing p q x with
  | nil => rfl
  | cons i rest ih =>
    simp only [List.foldl_cons, gfMultPass, BitVec.getLsbD_xor, ← ih]
    cases b.getLsbD i <;> cases c.getLsbD i <;> simp [BitVec.xor_assoc, BitVec.xor_comm x]

theorem gfMultLoop_xtime_left :
    (bits.foldl (gfMultPass b) (xtime p, xtime x)).1 = xtime (bits.foldl (gfMultPass b) (p, x)).1 := by
  induction bits generalizing p x with
  | nil => rfl
  | cons i rest ih =>
    simp only [List.foldl_cons, gfMultPass, ← ih]
    cases b.getLsbD i <;> simp [xtime_xor]

/-- The loop reaches nothing that xtime and XOR do not reach. -/
theorem gfMultLoop_induction {P : Byte → Prop} (xtime_step : ∀ z, P z → P (xtime z))
    (xor_step : ∀ z w, P z → P w → P (z ^^^ w)) (hp : P p) (hx : P x) :
    P (bits.foldl (gfMultPass b) (p, x)).1 := by
  induction bits generalizing p x with
  | nil => exact hp
  | cons i rest ih =>
    refine ih _ _ ?_ (xtime_step x hx)
    cases b.getLsbD i with
    | false => exact hp
    | true => exact xor_step p x hp hx

end

/-! ## gf28_mult -/

section
variable (a b c : Byte)

theorem gf28Mult_xor_left : gf28Mult (a ^^^ b) c = gf28Mult a c ^^^ gf28Mult b c :=
  gfMultLoop_xor_left c 0x00#8 0x00#8 a b _

theorem gf28Mult_xor_right : gf28Mult a (b ^^^ c) = gf28Mult a b ^^^ gf28Mult a c :=
  gfMultLoop_xor_right b c 0x00#8 0x00#8 a _

theorem gf28Mult_xtime_left : gf28Mult (xtime a) b = xtime (gf28Mult a b) :=
  gfMultLoop_xtime_left b 0x00#8 a _

@[simp] theorem gf28Mult_zero_left : gf28Mult 0x00#8 b = 0x00#8 := by
  simpa using gf28Mult_xor_left 0x00#8 0x00#8 b

@[simp] theorem gf28Mult_zero_right : gf28Mult a 0x00#8 = 0x00#8 := by
  simpa using gf28Mult_xor_right a 0x00#8 0x00#8

@[simp] theorem gf28Mult_one_left : gf28Mult 0x01#8 b = b := by
  revert b
  decide

/-- The loop of 01 · a makes a out of 00 and 01. -/
theorem byte_induction {P : Byte → Prop} (zero : P 0x00#8) (one : P 0x01#8) (xtime_step : ∀ z, P z → P (xtime z))
    (xor_step : ∀ z w, P z → P w → P (z ^^^ w)) : P a := by
  rw [← gf28Mult_one_left a]
  exact gfMultLoop_induction a 0x00#8 0x01#8 _ xtime_step xor_step zero one

theorem gf28Mult_xtime_right : gf28Mult a (xtime b) = xtime (gf28Mult a b) := by
  induction a using byte_induction with
  | zero => simp
  | one => simp
  | xtime_step a ih => rw [gf28Mult_xtime_left, ih, gf28Mult_xtime_left]
  | xor_step a a' ih ih' => rw [gf28Mult_xor_left, ih, ih', gf28Mult_xor_left, xtime_xor]

@[simp] theorem gf28Mult_one_right : gf28Mult a 0x01#8 = a := by
  induction a using byte_induction with
  | zero => simp
  | one => simp
  | xtime_step a ih => rw [gf28Mult_xtime_left, ih]
  | xor_step a a' ih ih' => rw [gf28Mult_xor_left, ih, ih']

theorem gf28Mult_comm : gf28Mult a b = gf28Mult b a := by
  induction a using byte_induction with
  | zero => simp
  | one => simp
  | xtime_step a ih => rw [gf28Mult_xtime_left, ih, gf28Mult_xtime_right]
  | xor_step a a' ih ih' => rw [gf28Mult_xor_left, ih, ih', gf28Mult_xor_right]

theorem gf28Mult_assoc : gf28Mult (gf28Mult a b) c = gf28Mult a (gf28Mult b c) := by
  induction a using byte_induction with
  | zero => simp
  | one => simp
  | xtime_step a ih => simp only [gf28Mult_xtime_left, ih]
  | xor_step a a' ih ih' => simp only [gf28Mult_xor_left, ih, ih']

theorem gf28Mult_left_comm : gf28Mult a (gf28Mult b c) = gf28Mult b (gf28Mult a c) := by
  rw [← gf28Mult_assoc, gf28Mult_comm a b, gf28Mult_assoc]

/-- The two cross terms cancel. -/
theorem gf28Mult_square_xor : gf28Mult (a ^^^ b) (a ^^^ b) = gf28Mult a a ^^^ gf28Mult b b := by
  simp [gf28Mult_xor_left, gf28Mult_xor_right, gf28Mult_comm b a, BitVec.xor_assoc]

theorem gf28Mult_two_right : gf28Mult a 0x02#8 = xtime a :=
  calc gf28Mult a 0x02#8 = gf28Mult a (xtime 0x01#8) := by rw [show xtime 0x01#8 = 0x02#8 by decide]
    _ = xtime a := by rw [gf28Mult_xtime_right, gf28Mult_one_right]

end

/-! ## The inverse, read from the printed table -/

section
variable {a : Byte}

theorem gf28Mult_gfInvTable (nonzero : a ≠ 0) : gf28Mult a (tableEntry gfInvTable a) = 0x01#8 := by
  revert a
  decide

theorem gf28Mult_right_cancel {b c : Byte} (nonzero : a ≠ 0) (same : gf28Mult b a = gf28Mult c a) : b = c :=
  calc b = gf28Mult (gf28Mult b a) (tableEntry gfInvTable a) := by
        rw [gf28Mult_assoc, gf28Mult_gfInvTable nonzero, gf28Mult_one_right]
    _ = c := by rw [same, gf28Mult_assoc, gf28Mult_gfInvTable nonzero, gf28Mult_one_right]

theorem eq_gfInvTable {b : Byte} (nonzero : a ≠ 0) (inverse : gf28Mult a b = 0x01#8) : b = tableEntry gfInvTable a := by
  refine gf28Mult_right_cancel nonzero ?_
  rw [gf28Mult_comm, inverse, gf28Mult_comm, gf28Mult_gfInvTable nonzero]

end

/-- Settles O34: the loop's laws, with the inverse from the printed table. -/
theorem gfMultFieldLaws : Obligations.GfMultFieldLaws := by
  unfold Obligations.GfMultFieldLaws
  exact ⟨gf28Mult_comm, gf28Mult_assoc, gf28Mult_xor_right, gf28Mult_one_right, gf28Mult_zero_right, gf28Mult_two_right,
    fun a nonzero => ⟨tableEntry gfInvTable a, gf28Mult_gfInvTable nonzero, fun _ => eq_gfInvTable nonzero⟩⟩

/-! ## Powers -/

section
variable (a b : Byte) (m n : Nat)

@[simp] theorem gfPower_zero : gfPower a 0 = 0x01#8 := rfl

theorem gfPower_succ : gfPower a (n + 1) = gf28Mult (gfPower a n) a := rfl

@[simp] theorem gfPower_zero_succ : gfPower 0x00#8 (n + 1) = 0x00#8 := by
  rw [gfPower_succ, gf28Mult_zero_right]

@[simp] theorem gfPower_one_left : gfPower 0x01#8 n = 0x01#8 := by
  induction n with
  | zero => rfl
  | succ n ih => rw [gfPower_succ, ih, gf28Mult_one_right]

@[simp] theorem gfPower_one_right : gfPower a 1 = a := gf28Mult_one_left a

theorem gfPower_add : gfPower a (m + n) = gf28Mult (gfPower a m) (gfPower a n) := by
  induction n with
  | zero => rw [Nat.add_zero, gfPower_zero, gf28Mult_one_right]
  | succ n ih => rw [← Nat.add_assoc, gfPower_succ, ih, gf28Mult_assoc, gfPower_succ]

theorem gfPower_gf28Mult : gfPower (gf28Mult a b) n = gf28Mult (gfPower a n) (gfPower b n) := by
  induction n with
  | zero => simp
  | succ n ih => simp only [gfPower_succ, ih, gf28Mult_assoc, gf28Mult_left_comm a]

theorem gfPower_two_pow_succ : gfPower a (2 ^ (n + 1)) = gf28Mult (gfPower a (2 ^ n)) (gfPower a (2 ^ n)) := by
  rw [Nat.pow_succ, Nat.mul_two, gfPower_add]

theorem gfPower_two_pow_xor : gfPower (a ^^^ b) (2 ^ n) = gfPower a (2 ^ n) ^^^ gfPower b (2 ^ n) := by
  induction n with
  | zero => simp
  | succ n ih => simp only [gfPower_two_pow_succ, ih, gf28Mult_square_xor]

/-- a^256 = a: it is so for 02, hence kept by xtime, and raising to the 256 distributes over XOR. -/
theorem gfPower_256 : gfPower a (2 ^ 8) = a := by
  induction a using byte_induction with
  | zero => exact gfPower_zero_succ 255
  | one => exact gfPower_one_left _
  | xtime_step a ih =>
    have two : gfPower 0x02#8 (2 ^ 8) = 0x02#8 := by
      simp only [gfPower_two_pow_succ]
      decide
    rw [← gf28Mult_two_right, gfPower_gf28Mult, ih, two]
  | xor_step a b iha ihb => rw [gfPower_two_pow_xor, iha, ihb]

end

theorem gfPower_255 {a : Byte} (nonzero : a ≠ 0) : gfPower a 255 = 0x01#8 := by
  refine gf28Mult_right_cancel nonzero ?_
  rw [← gfPower_succ, gf28Mult_one_left]
  exact gfPower_256 a

/-! ## gf28_exp and gf_inv -/

theorem gf28Exp_zero_left {e : Byte} (nonzero : e ≠ 0) : gf28Exp 0x00#8 e = 0x00#8 := by
  obtain ⟨n, he⟩ := Nat.exists_eq_succ_of_ne_zero (mt (BitVec.eq_of_toNat_eq (y := 0#8)) nonzero)
  rw [gf28Exp, he, gfPower_zero_succ]

theorem gf28Exp_255 {a : Byte} (nonzero : a ≠ 0) : gf28Exp a 255 = 0x01#8 := gfPower_255 nonzero

theorem gf28Exp_add (a : Byte) {e1 e2 : Byte} (noWrap : e1.toNat + e2.toNat ≤ 255) :
    gf28Exp a (e1 + e2) = gf28Mult (gf28Exp a e1) (gf28Exp a e2) := by
  have sum : (e1 + e2).toNat = e1.toNat + e2.toNat := BitVec.toNat_add_of_lt (Nat.lt_succ_of_le noWrap)
  rw [gf28Exp, sum, gfPower_add]
  rfl

theorem gf28Mult_gfInv {a : Byte} (nonzero : a ≠ 0) : gf28Mult a (gfInv a) = 0x01#8 := by
  rw [gf28Mult_comm]
  exact gfPower_255 nonzero

theorem gfInv_zero : gfInv 0x00#8 = 0x00#8 := gf28Exp_zero_left (by decide)

theorem gfInvTable_eq_gfInv (a : Byte) : tableEntry gfInvTable a = gfInv a := by
  by_cases nonzero : a = 0
  · rw [nonzero]
    exact gfInv_zero.symm
  · exact (eq_gfInvTable nonzero (gf28Mult_gfInv nonzero)).symm

/-- Settles O35: the exponent's sum does not wrap, and a^255 = 1 because a^256 = a. -/
theorem gfExpLaws : Obligations.GfExpLaws := by
  unfold Obligations.GfExpLaws
  exact ⟨fun _ => rfl, gfPower_one_right, fun _ => gf28Exp_zero_left, fun e => gfPower_one_left e.toNat,
    fun _ => gf28Exp_255, fun a _ _ => gf28Exp_add a, by decide⟩

/-- Settles O36: a^254 is the inverse of a ≠ 0, and the printed table holds the only one. -/
theorem gfInverseOfNonzero : Obligations.GfInverseOfNonzero := by
  unfold Obligations.GfInverseOfNonzero
  exact ⟨fun _ => rfl, gfInvTable_eq_gfInv, fun _ => gf28Mult_gfInv, gfInv_zero⟩

/-! ## GFMUL and GFEXP -/

theorem fields_of_op (op : BitVec 4) :
    opField (op.setWidth 32) = op ∧ kField (op.setWidth 32) = false ∧ klenField (op.setWidth 32) = 0 ∧
      blenField (op.setWidth 32) = 0 ∧ rsvField (op.setWidth 32) = 0 := by
  revert op
  decide

/-- A command with no operand is the one legal word of its OP (R72, R74). -/
theorem decode_eq_none_of_no_operand {c : Word} {op : BitVec 4} (noOperand : op = 0 ∨ (4#4 ≤ op ∧ op ≤ 8#4))
    (same : opField c = op) (other : c ≠ op.setWidth 32) : decode c = none := by
  rw [decode_eq_none_iff_illegal, same]
  by_contra legal
  simp only [not_or, not_and, not_not] at legal
  obtain ⟨-, rsv, k, -, -, lengths⟩ := legal
  obtain ⟨klen, blen⟩ := lengths noOperand
  have notKOp : ∀ op : BitVec 4, op = 0 ∨ (4#4 ≤ op ∧ op ≤ 8#4) → op ≠ 2 ∧ op ≠ 3 := by decide
  have notK : kField c = false := by
    by_contra isK
    obtain ⟨notEnc, notDec⟩ := notKOp op noOperand
    exact notDec (k (Bool.eq_true_of_not_eq_false isK) notEnc)
  obtain ⟨opEq, kEq, klenEq, blenEq, rsvEq⟩ := fields_of_op op
  exact other (word_eq_of_fields (same.trans opEq.symm) (notK.trans kEq.symm) (klen.trans klenEq.symm)
    (blen.trans blenEq.symm) (rsv.trans rsvEq.symm))

/-- Settles O19: word 4 is the one legal word of its OP, and the zero of gf28_mult gives the zero cases. -/
theorem gfmulWritesProduct : Obligations.GfmulWritesProduct := by
  unfold Obligations.GfmulWritesProduct
  exact ⟨by decide, fun c op other => decode_eq_none_of_no_operand (by decide) op other, fun _ => rfl,
    fun a => ⟨gf28Mult_zero_right a, gf28Mult_zero_left a⟩, by decide⟩

/-- Settles O20: the corner cases are laws of gf28_exp, and the inverse of 53 is read from the printed table. -/
theorem gfexpWritesPower : Obligations.GfexpWritesPower := by
  unfold Obligations.GfexpWritesPower
  have inverse : gf28Exp 0x53#8 0xFE#8 = 0xCA#8 :=
    (gfInvTable_eq_gfInv 0x53#8).symm.trans (by decide)
  exact ⟨by decide, fun _ => rfl, fun _ => rfl, fun _ => gf28Exp_zero_left, fun _ => rfl, fun _ => gf28Exp_255, inverse⟩

end Sys2Proof.Machine
end

section
/-! PROOFS. The S-box and its inverse: the printed tables are the formulas of R112 and R114, the affine transforms undo each other
(R111) and gf_inv undoes itself, and so the two boxes undo each other (R115). With that, SBOX and ISBOX (R120, R121). -/

namespace Sys2Proof.Machine

/-! ## The parts of the S-box: the affine transforms and gf_inv -/

section
variable (b x y : Byte)

@[simp] theorem invAffine_affine : invAffine (affine b) = b := by
  revert b
  decide

@[simp] theorem affine_invAffine : affine (invAffine b) = b := by
  revert b
  decide

theorem gfInv_ne_zero {a : Byte} (nonzero : a ≠ 0) : gfInv a ≠ 0 := by
  intro zero
  have product := gf28Mult_gfInv nonzero
  rw [zero] at product
  exact absurd ((gf28Mult_zero_right a).symm.trans product) (by decide)

/-- a is an inverse of gf_inv(a), which has only one. -/
@[simp] theorem gfInv_gfInv : gfInv (gfInv b) = b := by
  by_cases zero : b = 0
  · rw [zero]
    exact (congrArg gfInv gfInv_zero).trans gfInv_zero
  · have inverse : gf28Mult (gfInv b) b = 0x01#8 := by rw [gf28Mult_comm, gf28Mult_gfInv zero]
    rw [← gfInvTable_eq_gfInv (gfInv b)]
    exact (eq_gfInvTable (gfInv_ne_zero zero) inverse).symm

/-! ## The tables are the formulas (R113, R116) -/

/-- The table of inverses stands between the two, so that no power is computed. -/
theorem sBox_eq_sBoxFormula : sBox x = sBoxFormula x := by
  have tables : ∀ x : Byte, sBox x = affine (tableEntry gfInvTable x) := by decide
  rw [tables, gfInvTable_eq_gfInv, sBoxFormula]

theorem sBoxInv_eq_sBoxInvFormula : sBoxInv y = sBoxInvFormula y := by
  have tables : ∀ y : Byte, sBoxInv y = tableEntry gfInvTable (invAffine y) := by decide
  rw [tables, gfInvTable_eq_gfInv, sBoxInvFormula]

@[simp] theorem sBoxInv_sBox : sBoxInv (sBox x) = x := by
  rw [sBoxInv_eq_sBoxInvFormula, sBox_eq_sBoxFormula, sBoxInvFormula, sBoxFormula, invAffine_affine, gfInv_gfInv]

@[simp] theorem sBox_sBoxInv : sBox (sBoxInv y) = y := by
  rw [sBox_eq_sBoxFormula, sBoxInv_eq_sBoxInvFormula, sBoxFormula, sBoxInvFormula, gfInv_gfInv, affine_invAffine]

theorem sBox_ne_self : sBox x ≠ x := by
  revert x
  decide

theorem sBox_ne_complement : sBox x ≠ x ^^^ 0xFF#8 := by
  revert x
  decide

end

/-- Settles O37: the boxes undo each other because their parts do, and no byte is fixed or complemented. -/
theorem sBoxInvariants : Obligations.SBoxInvariants := by
  unfold Obligations.SBoxInvariants
  have inverse : Function.LeftInverse sBoxInv sBox := sBoxInv_sBox
  have rightInverse : Function.RightInverse sBoxInv sBox := sBox_sBoxInv
  exact ⟨inverse, rightInverse, fun _ _ same => inverse.injective same, rightInverse.surjective,
    fun x => ⟨sBox_ne_self x, sBox_ne_complement x⟩, fun b => ⟨invAffine_affine b, affine_invAffine b⟩⟩

/-! ## SBOX and ISBOX -/

/-- Settles O21: the table that SBOX reads is the formula of R112. -/
theorem sboxWritesSubstitution : Obligations.SboxWritesSubstitution := by
  unfold Obligations.SboxWritesSubstitution
  refine ⟨by decide, fun s => ?_, by decide, by decide, by decide, sBox_ne_self⟩
  rw [exec_sbox, completion_ok, sBox_eq_sBoxFormula]
  rfl

/-- Settles O22: the table that ISBOX reads is the formula of R114, and it undoes the S-box. -/
theorem isboxWritesInverseSubstitution : Obligations.IsboxWritesInverseSubstitution := by
  unfold Obligations.IsboxWritesInverseSubstitution
  refine ⟨by decide, fun s => ?_, by decide, by decide, by decide, fun s => ⟨_, _, rfl, rfl, sBoxInv_sBox s.opa⟩⟩
  rw [exec_isbox, completion_ok, sBoxInv_eq_sBoxInvFormula]
  rfl

end Sys2Proof.Machine
end

section
/-! PROOFS. The full-cipher vectors T1 to T3 (R118): the ciphers on concrete words, and the DOUT that ENCK and DECK leave in any
state (R171, R173). -/

namespace Sys2Proof.Machine

/-- The 60 words that EXPKEY, ENCK and DECK store for a key (R140). -/
def keySchedule (key : Vector Word 8) (v : Variant) : Vector Word 60 :=
  scheduleOf (aesKeyExpand (keyWords key v) v) (variantNr v)

/-- The key registers of T1 to T3; a shorter key reads the first Nk words. -/
def vectorKey : Vector Word 8 :=
  #v[0x00010203#32, 0x04050607#32, 0x08090A0B#32, 0x0C0D0E0F#32, 0x10111213#32, 0x14151617#32, 0x18191A1B#32, 0x1C1D1E1F#32]

/-- The plaintext of T1 to T3. -/
def vectorPlaintext : Vector Word 4 := #v[0x00112233#32, 0x44556677#32, 0x8899AABB#32, 0xCCDDEEFF#32]

/-- The ciphertexts of T1, T2 and T3. -/
def vectorCiphertext : Variant → Vector Word 4
  | .aes128 => #v[0x69C4E0D8#32, 0x6A7B0430#32, 0xD8CDB780#32, 0x70B4C55A#32]
  | .aes192 => #v[0xDDA97CA4#32, 0x864CDFE0#32, 0x6EAF70A0#32, 0xEC0D7191#32]
  | .aes256 => #v[0x8EA2B7CA#32, 0x516745BF#32, 0xEAFC4990#32, 0x4B496089#32]

theorem cipher_vectorPlaintext (v : Variant) :
    cipher vectorPlaintext (keySchedule vectorKey v) (variantNr v) = vectorCiphertext v := by
  cases v <;> decide +kernel

theorem invCipher_vectorCiphertext (v : Variant) :
    invCipher (vectorCiphertext v) (keySchedule vectorKey v) (variantNr v) = vectorPlaintext := by
  cases v <;> decide +kernel

/-- With a valid key length and a block of 16 bytes, DOUT takes what the cipher gives for DIN under the key's schedule. -/
theorem facadeBody_dout (f : Vector Word 4 → Vector Word 60 → Nat → Vector Word 4) {klen : Nat} {v : Variant} (s : State)
    (selected : variant klen = some v) :
    ∃ t, completion s (facadeBody f klen 16 s) = .next t ∧ t.dout = f s.din (keySchedule s.key v) (variantNr v) := by
  obtain ⟨invalid, -⟩ | ⟨_, -, short, -⟩ | ⟨w, valid, -, body⟩ := facadeBody_cases f klen 16 s
  · rw [invalid] at selected
    cases selected
  · exact absurd rfl short
  · obtain rfl : w = v := Option.some.inj (valid.symm.trans selected)
    exact ⟨_, congrArg (completion s) body, rfl⟩

/-- The vector of the variant that a key length selects, through ENCK and back through DECK. -/
theorem exec_enck_deck_vector {klen : Nat} {v : Variant} (selected : variant klen = some v) (s : State)
    (key : s.key = vectorKey) :
    (s.din = vectorPlaintext → ∃ t, exec (.enck klen 16) s = .next t ∧ t.dout = vectorCiphertext v) ∧
      (s.din = vectorCiphertext v → ∃ t, exec (.deck klen 16) s = .next t ∧ t.dout = vectorPlaintext) := by
  constructor <;> intro din
  · obtain ⟨t, h, dout⟩ := facadeBody_dout cipher s selected
    exact ⟨t, h, by rw [dout, din, key, cipher_vectorPlaintext]⟩
  · obtain ⟨t, h, dout⟩ := facadeBody_dout invCipher s selected
    exact ⟨t, h, by rw [dout, din, key, invCipher_vectorCiphertext]⟩

/-- Settles O44: each key length selects its variant, and the ciphers of that variant are evaluated on the vector's words. -/
theorem fullCipherVectors : Obligations.FullCipherVectors := by
  unfold Obligations.FullCipherVectors
  rintro klen ct (⟨rfl, rfl⟩ | ⟨rfl, rfl⟩ | ⟨rfl, rfl⟩)
  · exact exec_enck_deck_vector (v := .aes128) rfl
  · exact exec_enck_deck_vector (v := .aes192) rfl
  · exact exec_enck_deck_vector (v := .aes256) rfl

end Sys2Proof.Machine
end

section
/-! PROOFS. The key expansion: the key length selects the variant (R130), the loop's words satisfy the recurrence of R135, EXPKEY
stores them (R140), and EXPKEY, ENCK and DECK read the first Nk key words only, ENC and DEC none (R141, R252). -/

namespace Sys2Proof.Machine

/-! ## The key length -/

theorem variant_eq_none_iff (n : Nat) : variant n = none ↔ n ≠ 16 ∧ n ≠ 24 ∧ n ≠ 32 := by
  unfold variant
  split_ifs <;> simp [*]

/-- Settles O23: the three lengths are tested one after another. -/
theorem keyLengthSelectsVariant : Obligations.KeyLengthSelectsVariant := by
  unfold Obligations.KeyLengthSelectsVariant
  exact ⟨⟨.aes128, rfl, rfl, rfl⟩, ⟨.aes192, rfl, rfl, rfl⟩, ⟨.aes256, rfl, rfl, rfl⟩, variant_eq_none_iff⟩

/-! ## The loop of R135 -/

section
variable (nk n : Nat) (w : List Word)

theorem expandLoop_length : (expandLoop nk n w).length = w.length + n := by
  induction n generalizing w with
  | zero => rfl
  | succ n ih =>
    rw [expandLoop, ih, List.length_append, List.length_singleton]
    omega

/-- A pass only adds a word at the end. -/
theorem expandLoop_getD_of_lt {i : Nat} (old : i < w.length) : (expandLoop nk n w).getD i 0 = w.getD i 0 := by
  induction n generalizing w with
  | zero => rfl
  | succ n ih =>
    have longer : i < (w ++ [nextWord nk w]).length := by
      rw [List.length_append]
      omega
    rw [expandLoop, ih _ longer, List.getD_append _ _ _ _ old]

/-- The word that a pass adds is the recurrence's; w[i-Nk] and w[i-1] are there already, so later passes keep them. -/
theorem expandLoop_recurrence {i : Nat} (nkPos : 0 < nk) (wPos : 0 < w.length) (added : w.length ≤ i)
    (bound : i < w.length + n) :
    (expandLoop nk n w).getD i 0 =
      (expandLoop nk n w).getD (i - nk) 0 ^^^ expandTemp nk i ((expandLoop nk n w).getD (i - 1) 0) := by
  induction n generalizing w with
  | zero => omega
  | succ n ih =>
    have length : (w ++ [nextWord nk w]).length = w.length + 1 := List.length_append
    obtain rfl | later := Nat.eq_or_lt_of_le added
    · rw [expandLoop_getD_of_lt nk (n + 1) w (by omega : w.length - nk < w.length),
        expandLoop_getD_of_lt nk (n + 1) w (by omega : w.length - 1 < w.length),
        expandLoop, expandLoop_getD_of_lt nk n _ (by omega : w.length < _)]
      simp [nextWord]
    · exact ih _ (by omega) (by omega) (by omega)

end

/-- In the range where Rcon is defined the exponent fits its byte (R132). -/
theorem rcon_eq_gfPower {j : Nat} (one : 1 ≤ j) (ten : j ≤ 10) : rcon j = wordOf (gfPower 0x02#8 (j - 1)) 0 0 0 := by
  have exponent : (BitVec.ofNat 8 (j - 1)).toNat = j - 1 := Nat.mod_eq_of_lt (by omega)
  rw [rcon, if_pos ⟨one, ten⟩, gf28Exp, exponent]

/-- The expansion reads Rcon at 1 to 10 only (R132). -/
theorem rconIndex_bounds (v : Variant) {i : Nat} (lower : variantNk v ≤ i) (upper : i < 4 * (variantNr v + 1)) :
    1 ≤ i / variantNk v ∧ i / variantNk v ≤ 10 := by
  cases v <;> simp only [variantNk, variantNr] at * <;> omega

theorem variantNk_pos (v : Variant) : 0 < variantNk v := by cases v <;> decide

theorem variantNk_le_scheduleLength (v : Variant) : variantNk v ≤ 4 * (variantNr v + 1) := by cases v <;> decide

/-- Settles O38: the loop runs from the key's Nk words, and Rcon's index stays in its range. -/
theorem expansionRecurrence : Obligations.ExpansionRecurrence := by
  unfold Obligations.ExpansionRecurrence
  intro v kw length
  have nkPos := variantNk_pos v
  have nkLe := variantNk_le_scheduleLength v
  refine ⟨?_, fun i old => ?_, fun i lower upper => ?_⟩
  · rw [aesKeyExpand, expandLoop_length, length]
    omega
  · exact expandLoop_getD_of_lt _ _ _ (length ▸ old)
  · obtain ⟨one, ten⟩ := rconIndex_bounds v lower upper
    rw [← rcon_eq_gfPower one ten]
    exact expandLoop_recurrence _ _ kw nkPos (by omega) (by omega) (by omega)

/-! ## EXPKEY -/

theorem expkeyBody_of_valid {klen : Nat} {v : Variant} (selected : variant klen = some v) (s : State) :
    expkeyBody klen s = .ok (s.storeSchedule (aesKeyExpand (keyWords s.key v) v) v) := by
  rw [expkeyBody, selected]

theorem expkeyBody_of_invalid {klen : Nat} (invalid : variant klen = none) (s : State) :
    expkeyBody klen s = .error .invalidKeyLength := by
  rw [expkeyBody, invalid]

/-- Settles O24: the body stores the key's schedule, or raises its one error. -/
theorem expkeyStoresSchedule : Obligations.ExpkeyStoresSchedule := by
  unfold Obligations.ExpkeyStoresSchedule
  refine ⟨fun klen v s selected => ⟨keySchedule s.key v, ?_, fun i => ?_⟩, fun klen s invalid => ?_⟩
  · rw [exec_expkey, expkeyBody_of_valid selected, completion_ok]
    rfl
  · exact scheduleOf_getElem _ _ i i.isLt
  · rw [exec_expkey, expkeyBody_of_invalid invalid, completion_error]
    rfl

/-! ## The key words that a command reads -/

/-- The two keys have the same first Nk words, those that the variant reads (R134). -/
def AgreeBelowNk (v : Variant) (key key' : Vector Word 8) : Prop := ∀ j : Fin 8, j.val < variantNk v → key'[j] = key[j]

theorem AgreeBelowNk.keyWords_eq {v : Variant} {key key' : Vector Word 8} (agree : AgreeBelowNk v key key') :
    keyWords key' v = keyWords key v := by
  refine List.ext_getElem (by rw [keyWords_length, keyWords_length]) fun j h _ => ?_
  have read : j < variantNk v := by rwa [keyWords_length] at h
  have inKey : j < 8 := read.trans_le (by cases v <;> decide)
  simpa [keyWords] using agree ⟨j, inKey⟩ read

/-- `s` with other key registers. -/
def State.withKey (s : State) (key' : Vector Word 8) : State := { s with key := key' }

section
variable (s : State) (key' : Vector Word 8)

/-- A completion leaves the key registers as its body does. -/
theorem completion_withKey {body body' : Except ErrCode State} (same : body' = body.map (·.withKey key')) :
    ∃ t, completion s body = .next t ∧ completion (s.withKey key') body' = .next (t.withKey key') := by
  subst same
  cases body with
  | ok t => exact ⟨t.complete .success, rfl, rfl⟩
  | error code => exact ⟨s.complete code, rfl, rfl⟩

/-- The stored schedule is read without the key (R252). -/
theorem storedScheduleBody_withKey (f : Vector Word 4 → Vector Word 60 → Nat → Vector Word 4) (b : Nat) :
    storedScheduleBody f b (s.withKey key') = (storedScheduleBody f b s).map (·.withKey key') := by
  have same : (s.withKey key').ksValid = s.ksValid := rfl
  simp only [storedScheduleBody, same]
  split_ifs <;> rfl

variable {s key'} {klen : Nat} {v : Variant}

theorem storeSchedule_withKey (agree : AgreeBelowNk v s.key key') :
    (s.withKey key').storeSchedule (aesKeyExpand (keyWords (s.withKey key').key v) v) v =
      (s.storeSchedule (aesKeyExpand (keyWords s.key v) v) v).withKey key' := by
  have same : keyWords (s.withKey key').key v = keyWords s.key v := agree.keyWords_eq
  rw [same]
  rfl

theorem expkeyBody_withKey (selected : variant klen = some v) (agree : AgreeBelowNk v s.key key') :
    expkeyBody klen (s.withKey key') = (expkeyBody klen s).map (·.withKey key') := by
  rw [expkeyBody_of_valid selected, expkeyBody_of_valid selected, storeSchedule_withKey agree]
  rfl

theorem facadeBody_withKey (f : Vector Word 4 → Vector Word 60 → Nat → Vector Word 4) (b : Nat)
    (selected : variant klen = some v) (agree : AgreeBelowNk v s.key key') :
    facadeBody f klen b (s.withKey key') = (facadeBody f klen b s).map (·.withKey key') := by
  simp only [facadeBody, selected, storeSchedule_withKey agree]
  split_ifs <;> rfl

end

/-- Settles O33: the schedule of a key is that of its first Nk words, and nothing else of the key is read. -/
theorem keyWordsBeyondNkAreNotRead : Obligations.KeyWordsBeyondNkAreNotRead := by
  unfold Obligations.KeyWordsBeyondNkAreNotRead
  constructor
  · rintro klen b v s key' selected agree i (rfl | rfl | rfl)
    · exact completion_withKey s key' (expkeyBody_withKey selected agree)
    · exact completion_withKey s key' (facadeBody_withKey cipher b selected agree)
    · exact completion_withKey s key' (facadeBody_withKey invCipher b selected agree)
  · rintro b s key' i (rfl | rfl)
    · exact completion_withKey s key' (storedScheduleBody_withKey s key' cipher b)
    · exact completion_withKey s key' (storedScheduleBody_withKey s key' invCipher b)

end Sys2Proof.Machine
end

section
/-! PROOFS. The State (R150, R151), the round transformations (R152 to R158), their inverse pairs (R159) and the round trip of the
two ciphers (R162). -/

namespace Sys2Proof.Machine

/-! ## The State's bytes -/

section
variable (b : Vector Word 4) (m : StateMatrix) (rk : Vector Word 60) (n : Nat) (r c : Fin 4)

/-- Byte r + 4c of a block is byte r of word c (R26, R28). -/
theorem blockByte_columnMajor : blockByte b ⟨r.val + 4 * c.val, by omega⟩ = byteOf b[c] r :=
  (matrixGet_matrixOf (fun r c => blockByte b ⟨r.val + 4 * c.val, by omega⟩) r c).symm.trans (matrixGet_loadBlock b r c)

@[simp] theorem byteOf_storeBlock : byteOf (storeBlock m)[c] r = matrixGet m r c := by
  have word : (storeBlock m)[c] = wordOf (matrixGet m 0 c) (matrixGet m 1 c) (matrixGet m 2 c) (matrixGet m 3 c) :=
    storeBlock_getElem m c c.isLt
  rw [word, byteOf_wordOf]
  match r with
  | 0 | 1 | 2 | 3 => rfl

@[simp] theorem storeBlock_loadBlock : storeBlock (loadBlock b) = b := by
  refine Vector.ext fun c h => ?_
  simp only [storeBlock_getElem, matrixGet_loadBlock]
  exact wordOf_byteOf _

@[simp] theorem loadBlock_storeBlock : loadBlock (storeBlock m) = m :=
  stateMatrix_ext fun r c => by rw [matrixGet_loadBlock, byteOf_storeBlock]

/-- Settles O39, from byte r of word c on both sides. -/
theorem loadAndStoreAreColumnMajor : Obligations.LoadAndStoreAreColumnMajor := by
  unfold Obligations.LoadAndStoreAreColumnMajor
  refine ⟨fun b r c => matrixGet_matrixOf _ r c, fun m r c => ?_, storeBlock_loadBlock⟩
  rw [blockByte_columnMajor, byteOf_storeBlock]

/-! ## The round transformations, byte by byte -/

@[simp] theorem matrixGet_addRoundKey :
    matrixGet (addRoundKey rk n m) r c = matrixGet m r c ^^^ byteOf (roundKeyWord rk (4 * n + c.val)) r :=
  matrixGet_matrixOf _ r c

@[simp] theorem matrixGet_subBytes : matrixGet (subBytes m) r c = sBox (matrixGet m r c) := matrixGet_matrixOf _ r c

@[simp] theorem matrixGet_invSubBytes : matrixGet (invSubBytes m) r c = sBoxInv (matrixGet m r c) :=
  matrixGet_matrixOf _ r c

@[simp] theorem matrixGet_shiftRows : matrixGet (shiftRows m) r c = matrixGet m r (c + r) := matrixGet_matrixOf _ r c

@[simp] theorem matrixGet_invShiftRows : matrixGet (invShiftRows m) r c = matrixGet m r (c - r) :=
  matrixGet_matrixOf _ r c

end

theorem roundKeyWord_of_lt (rk : Vector Word 60) {i : Nat} (h : i < 60) : roundKeyWord rk i = rk[i] := dif_pos h

/-- Settles O40: the four transformations are given byte by byte, with the column's arithmetic in Fin 4. -/
theorem roundTransformsByteByByte : Obligations.RoundTransformsByteByByte := by
  unfold Obligations.RoundTransformsByteByByte
  refine fun m r c => ⟨fun rk n h => ?_, matrixGet_subBytes m r c, matrixGet_invSubBytes m r c, ?_, ?_⟩
  · rw [matrixGet_addRoundKey, roundKeyWord_of_lt rk h]
  · exact matrixGet_shiftRows m r c
  · have column : c - r = ⟨(c.val + 4 - r.val) % 4, Nat.mod_lt _ (by decide)⟩ := by
      revert r c
      decide
    rw [matrixGet_invShiftRows, column]

/-! ## MixColumns and InvMixColumns as matrices (R155, R158) -/

/-- A row of a matrix times a column, over GF(2^8). -/
def columnDot (row : Fin 4 → Byte) (a : StateColumn) : Byte :=
  gf28Mult (row 0) a.r0 ^^^ gf28Mult (row 1) a.r1 ^^^ gf28Mult (row 2) a.r2 ^^^ gf28Mult (row 3) a.r3

/-- Column k of a matrix that is given rows first. -/
def columnAt (M : Fin 4 → Fin 4 → Byte) (k : Fin 4) : StateColumn := ⟨M 0 k, M 1 k, M 2 k, M 3 k⟩

/-- Row i of the identity matrix. -/
def unitRow (i k : Fin 4) : Byte := if i = k then 0x01#8 else 0x00#8

section
variable (a : StateColumn) (m : StateMatrix) (i c : Fin 4)

theorem columnGet_mixColumn : columnGet (mixColumn a) i = columnDot (mixMatrix i) a := by
  match i with
  | 0 | 1 | 2 | 3 => simp [columnGet, mixColumn, columnDot, mixMatrix]

theorem columnGet_invMixColumn : columnGet (invMixColumn a) i = columnDot (invMixMatrix i) a := by
  match i with
  | 0 | 1 | 2 | 3 => rfl

theorem matrixColumn_mixColumns : matrixColumn (mixColumns m) c = mixColumn (matrixColumn m c) := by
  match c with
  | 0 | 1 | 2 | 3 => rfl

theorem matrixColumn_invMixColumns : matrixColumn (invMixColumns m) c = invMixColumn (matrixColumn m c) := by
  match c with
  | 0 | 1 | 2 | 3 => rfl

theorem columnDot_unitRow : columnDot (unitRow i) a = columnGet a i := by
  match i with
  | 0 | 1 | 2 | 3 => simp [columnDot, unitRow, columnGet]

/-- A row times (a matrix times a column) is (the row times the matrix) times the column. -/
theorem columnDot_assoc (row : Fin 4 → Byte) (M : Fin 4 → Fin 4 → Byte) {b : StateColumn}
    (product : ∀ j, columnGet b j = columnDot (M j) a) :
    columnDot row b = columnDot (fun k => columnDot row (columnAt M k)) a := by
  have r0 : b.r0 = columnDot (M 0) a := product 0
  have r1 : b.r1 = columnDot (M 1) a := product 1
  have r2 : b.r2 = columnDot (M 2) a := product 2
  have r3 : b.r3 = columnDot (M 3) a := product 3
  rw [columnDot, r0, r1, r2, r3]
  simp only [columnDot, columnAt, gf28Mult_xor_left, gf28Mult_xor_right, gf28Mult_assoc]
  ac_rfl

end

/-- A column is its four bytes. -/
theorem stateColumn_ext {a b : StateColumn} (h : ∀ i, columnGet a i = columnGet b i) : a = b := by
  have r0 : a.r0 = b.r0 := h 0
  have r1 : a.r1 = b.r1 := h 1
  have r2 : a.r2 = b.r2 := h 2
  have r3 : a.r3 = b.r3 := h 3
  cases a
  cases b
  simp_all

/-- The two matrices are inverses of each other (R159). -/
theorem invMixMatrix_mixMatrix (i : Fin 4) : (fun k => columnDot (invMixMatrix i) (columnAt mixMatrix k)) = unitRow i := by
  funext k
  revert i k
  decide

theorem mixMatrix_invMixMatrix (i : Fin 4) : (fun k => columnDot (mixMatrix i) (columnAt invMixMatrix k)) = unitRow i := by
  funext k
  revert i k
  decide

@[simp] theorem invMixColumn_mixColumn (a : StateColumn) : invMixColumn (mixColumn a) = a :=
  stateColumn_ext fun i => by
    rw [columnGet_invMixColumn, columnDot_assoc a _ mixMatrix (columnGet_mixColumn a), invMixMatrix_mixMatrix,
      columnDot_unitRow]

@[simp] theorem mixColumn_invMixColumn (a : StateColumn) : mixColumn (invMixColumn a) = a :=
  stateColumn_ext fun i => by
    rw [columnGet_mixColumn, columnDot_assoc a _ invMixMatrix (columnGet_invMixColumn a), mixMatrix_invMixMatrix,
      columnDot_unitRow]

/-- Settles O41: each column of the result is the matrix times that column of S. -/
theorem mixColumnsMultiplyByTheMatrices : Obligations.MixColumnsMultiplyByTheMatrices := by
  unfold Obligations.MixColumnsMultiplyByTheMatrices
  intro m i c
  constructor
  · rw [matrixGet, matrixColumn_mixColumns, columnGet_mixColumn]
    rfl
  · rw [matrixGet, matrixColumn_invMixColumns, columnGet_invMixColumn]
    rfl

/-! ## The inverse pairs (R159) -/

section
variable (m : StateMatrix) (rk : Vector Word 60) (n : Nat)

@[simp] theorem invShiftRows_shiftRows : invShiftRows (shiftRows m) = m := stateMatrix_ext fun r c => by simp

@[simp] theorem shiftRows_invShiftRows : shiftRows (invShiftRows m) = m := stateMatrix_ext fun r c => by simp

@[simp] theorem invSubBytes_subBytes : invSubBytes (subBytes m) = m := stateMatrix_ext fun r c => by simp

@[simp] theorem subBytes_invSubBytes : subBytes (invSubBytes m) = m := stateMatrix_ext fun r c => by simp

@[simp] theorem invMixColumns_mixColumns : invMixColumns (mixColumns m) = m := by
  simp [invMixColumns, mixColumns]

@[simp] theorem mixColumns_invMixColumns : mixColumns (invMixColumns m) = m := by
  simp [invMixColumns, mixColumns]

@[simp] theorem addRoundKey_addRoundKey : addRoundKey rk n (addRoundKey rk n m) = m :=
  stateMatrix_ext fun r c => by simp

theorem subBytes_shiftRows : subBytes (shiftRows m) = shiftRows (subBytes m) := stateMatrix_ext fun r c => by simp

theorem invSubBytes_invShiftRows : invSubBytes (invShiftRows m) = invShiftRows (invSubBytes m) :=
  stateMatrix_ext fun r c => by simp

/-- Settles O42, one lemma for each pair. -/
theorem roundTransformInversePairs : Obligations.RoundTransformInversePairs := by
  unfold Obligations.RoundTransformInversePairs
  exact fun m => ⟨invShiftRows_shiftRows m, shiftRows_invShiftRows m, invSubBytes_subBytes m, subBytes_invSubBytes m,
    invMixColumns_mixColumns m, mixColumns_invMixColumns m, addRoundKey_addRoundKey m, subBytes_shiftRows m,
    invSubBytes_invShiftRows m⟩

/-! ## The round trip (R162) -/

/-- An InvCipher round undoes a Cipher round, up to the SubBytes and ShiftRows that begin the next Cipher round. -/
theorem decRound_encRound :
    decRound rk (shiftRows (subBytes (encRound rk m n))) n = shiftRows (subBytes m) := by
  simp [decRound, encRound]

/-- A Cipher round undoes an InvCipher round, up to the InvShiftRows and InvSubBytes that begin the next InvCipher round. -/
theorem encRound_decRound :
    encRound rk (invSubBytes (invShiftRows (decRound rk m n))) n = invSubBytes (invShiftRows m) := by
  simp [decRound, encRound]

end

/-- Rounds that are undone one at a time, each up to `h`, are undone in reverse order. -/
theorem foldl_reverse_undoes {α ι : Type} {f g : α → ι → α} {h : α → α} (undo : ∀ x k, g (h (f x k)) k = h x)
    (rounds : List ι) (x : α) : rounds.reverse.foldl g (h (rounds.foldl f x)) = h x := by
  induction rounds generalizing x with
  | nil => rfl
  | cons k rest ih => simp only [List.reverse_cons, List.foldl_append, List.foldl_cons, List.foldl_nil, ih, undo]

section
variable (rk : Vector Word 60) (nr : Nat) (m : StateMatrix) (inp : Vector Word 4)

theorem invCipherMatrix_cipherMatrix : invCipherMatrix rk nr (cipherMatrix rk nr m) = m := by
  rw [invCipherMatrix, cipherMatrix, addRoundKey_addRoundKey,
    foldl_reverse_undoes (h := fun x => shiftRows (subBytes x)) fun x k => decRound_encRound x rk k]
  simp

theorem cipherMatrix_invCipherMatrix : cipherMatrix rk nr (invCipherMatrix rk nr m) = m := by
  have undone := foldl_reverse_undoes (h := fun x => invSubBytes (invShiftRows x))
    (fun x k => encRound_decRound x rk k) (middleRounds nr).reverse
  rw [List.reverse_reverse] at undone
  rw [invCipherMatrix, cipherMatrix, addRoundKey_addRoundKey, undone]
  simp

@[simp] theorem invCipher_cipher : invCipher (cipher inp rk nr) rk nr = inp := by
  rw [invCipher, cipher, loadBlock_storeBlock, invCipherMatrix_cipherMatrix, storeBlock_loadBlock]

@[simp] theorem cipher_invCipher : cipher (invCipher inp rk nr) rk nr = inp := by
  rw [invCipher, cipher, loadBlock_storeBlock, cipherMatrix_invCipherMatrix, storeBlock_loadBlock]

end

/-- Settles O43: the rounds are undone in reverse order between the load and the store. -/
theorem cipherRoundTrip : Obligations.CipherRoundTrip := by
  unfold Obligations.CipherRoundTrip
  exact fun inp rk nr => ⟨invCipher_cipher rk nr inp, cipher_invCipher rk nr inp⟩

end Sys2Proof.Machine
end

section
/-! PROOFS. The cipher commands: ENC and DEC under the stored schedule (R170, R172), ENCK and DECK under a new one (R171, R173),
which is EXPKEY and then the other (C4), and a host's run through the window that encrypts and decrypts back (R162, R190,
R191). -/

namespace Sys2Proof.Machine

/-! ## The completion of ENC and DEC -/

section
variable (f : Vector Word 4 → Vector Word 60 → Nat → Vector Word 4) {blen klen : Nat} {v : Variant} (s : State)

theorem storedScheduleBody_of_badLength (bad : blen ≠ 16) :
    storedScheduleBody f blen s = .error .invalidBlockLength := if_pos bad

theorem storedScheduleBody_of_noSchedule (empty : s.ksValid = false) : storedScheduleBody f 16 s = .error .noSchedule := by
  simp [storedScheduleBody, empty]

theorem storedScheduleBody_of_schedule (stored : s.ksValid = true) :
    storedScheduleBody f 16 s = .ok ((s.storeDout (f s.din s.rk s.nr.toNat)).leaveMatrix) := by
  simp [storedScheduleBody, stored]

/-- What ENC and DEC answer, for their cipher `f`. -/
theorem completion_storedScheduleBody :
    (∀ (blen : Nat) (s : State), blen ≠ 16 → completion s (storedScheduleBody f blen s) =
      .next { s with err := .invalidBlockLength, done := true, pend := none }) ∧
    (∀ s : State, s.ksValid = false → completion s (storedScheduleBody f 16 s) =
      .next { s with err := .noSchedule, done := true, pend := none }) ∧
    (∀ s : State, s.ksValid = true → ∃ m n, completion s (storedScheduleBody f 16 s) =
      .next { s with
        dout := f s.din s.rk s.nr.toNat, err := .success, done := true, pend := none, sMat := m, freeCount := n }) := by
  refine ⟨fun blen s bad => ?_, fun s empty => ?_, fun s stored => ⟨Config.freeStateMatrix s.freeCount, s.freeCount + 1, ?_⟩⟩
  · rw [storedScheduleBody_of_badLength f s bad, completion_error]
    rfl
  · rw [storedScheduleBody_of_noSchedule f s empty, completion_error]
    rfl
  · rw [storedScheduleBody_of_schedule f s stored, completion_ok]
    rfl

/-! ## The completion of ENCK and DECK -/

theorem facadeBody_of_invalid (invalid : variant klen = none) : facadeBody f klen blen s = .error .invalidKeyLength := by
  rw [facadeBody, invalid]

theorem facadeBody_of_badLength (selected : variant klen = some v) (bad : blen ≠ 16) :
    facadeBody f klen blen s = .error .invalidBlockLength := by
  simp [facadeBody, selected, bad]

theorem facadeBody_of_valid (selected : variant klen = some v) :
    facadeBody f klen 16 s =
      .ok (((s.storeSchedule (aesKeyExpand (keyWords s.key v) v) v).storeDout
        (f s.din (keySchedule s.key v) (variantNr v))).leaveMatrix) := by
  simp only [facadeBody, selected]
  rfl

/-- What ENCK and DECK answer, for their cipher `f`. -/
theorem completion_facadeBody :
    (∀ (klen blen : Nat) (s : State), variant klen = none → completion s (facadeBody f klen blen s) =
      .next { s with err := .invalidKeyLength, done := true, pend := none }) ∧
    (∀ (klen blen : Nat) (v : Variant) (s : State), variant klen = some v → blen ≠ 16 →
      completion s (facadeBody f klen blen s) =
        .next { s with err := .invalidBlockLength, done := true, pend := none }) ∧
    (∀ (klen : Nat) (v : Variant) (s : State), variant klen = some v →
      ∃ (rk : Vector Word 60) (m : StateMatrix) (n : Nat),
        completion s (facadeBody f klen 16 s) =
          .next { s with
            rk := rk, ksValid := true, nk := BitVec.ofNat 4 (variantNk v), nr := BitVec.ofNat 4 (variantNr v)
            dout := f s.din rk (variantNr v), err := .success, done := true, pend := none, sMat := m, freeCount := n } ∧
        ∀ i : Fin 60, rk[i] =
          if i.val < 4 * (variantNr v + 1) then (aesKeyExpand (s.key.toList.take (variantNk v)) v).getD i.val 0
          else 0) := by
  refine ⟨fun klen blen s invalid => ?_, fun klen blen v s selected bad => ?_,
    fun klen v s selected =>
      ⟨keySchedule s.key v, Config.freeStateMatrix s.freeCount, s.freeCount + 1, ?_, fun i => ?_⟩⟩
  · rw [facadeBody_of_invalid f s invalid, completion_error]
    rfl
  · rw [facadeBody_of_badLength f s selected bad, completion_error]
    rfl
  · rw [facadeBody_of_valid f s selected, completion_ok]
    rfl
  · exact scheduleOf_getElem _ _ i i.isLt

end

/-- Settles O25: the shared body of ENC and DEC, with Cipher. -/
theorem encEncryptsWithStoredSchedule : Obligations.EncEncryptsWithStoredSchedule := by
  unfold Obligations.EncEncryptsWithStoredSchedule
  exact completion_storedScheduleBody cipher

/-- Settles O26: the shared body of ENC and DEC, with InvCipher. -/
theorem decDecryptsWithStoredSchedule : Obligations.DecDecryptsWithStoredSchedule := by
  unfold Obligations.DecDecryptsWithStoredSchedule
  exact completion_storedScheduleBody invCipher

/-- Settles O27: the shared body of ENCK and DECK, with Cipher. -/
theorem enckExpandsThenEncrypts : Obligations.EnckExpandsThenEncrypts := by
  unfold Obligations.EnckExpandsThenEncrypts
  exact completion_facadeBody cipher

/-- Settles O28: the shared body of ENCK and DECK, with InvCipher. -/
theorem deckExpandsThenDecrypts : Obligations.DeckExpandsThenDecrypts := by
  unfold Obligations.DeckExpandsThenDecrypts
  exact completion_facadeBody invCipher

/-! ## ENCK and DECK as EXPKEY and then ENC or DEC (C4) -/

/-- The NR field holds every Nr (R23, R130). -/
theorem toNat_ofNat_variantNr (v : Variant) : (BitVec.ofNat 4 (variantNr v)).toNat = variantNr v := by
  cases v <;> rfl

/-- After EXPKEY the stored schedule and NR are those that the facade uses. -/
theorem completion_facadeBody_eq_storedScheduleBody (f : Vector Word 4 → Vector Word 60 → Nat → Vector Word 4) {klen : Nat}
    {v : Variant} (selected : variant klen = some v) {s t : State}
    (expanded : t = (s.storeSchedule (aesKeyExpand (keyWords s.key v) v) v).complete .success) :
    completion s (facadeBody f klen 16 s) = completion t (storedScheduleBody f 16 t) := by
  have nr : t.nr.toNat = variantNr v := by
    rw [expanded]
    exact toNat_ofNat_variantNr v
  have stored : t.ksValid = true := by rw [expanded]; rfl
  rw [facadeBody_of_valid f s selected, storedScheduleBody_of_schedule f t stored, nr, completion_ok, completion_ok, expanded]
  rfl

/-- Settles O32: EXPKEY leaves the schedule and NR that ENCK and DECK compute for themselves. -/
theorem facadeIsExpkeyThenCipher : Obligations.FacadeIsExpkeyThenCipher := by
  unfold Obligations.FacadeIsExpkeyThenCipher
  intro klen s valid
  obtain ⟨v, selected⟩ := Option.ne_none_iff_exists'.mp valid
  refine ⟨_, ?_, completion_facadeBody_eq_storedScheduleBody cipher selected rfl,
    completion_facadeBody_eq_storedScheduleBody invCipher selected rfl⟩
  rw [exec_expkey, expkeyBody_of_valid selected, completion_ok]

/-! ## A host's run (R190, R191) -/

theorem coreTurn_of_command {s : State} {c : Word} {i : Instr} (released : s.rst = false) (pending : s.pend = some c)
    (decoded : decode c = some i) : s.coreTurn = exec i s := by
  simp [State.coreTurn, released, pending, decoded]

/-- `s` after a host run of ENC or DEC, for its cipher `f`, with no turn left. -/
def State.cipheredBy (s : State) (f : Vector Word 4 → Vector Word 60 → Nat → Vector Word 4) : State :=
  (({ s with turns := [] } : State).storeDout (f s.din s.rk s.nr.toNat)).leaveMatrix.complete .success

/-- The turn in which the host writes a DIN register. -/
def dinWrite (write : Fin 4 × Word) : Turn := .busWrite (regOffset (.din write.1)) write.2

section
variable {s : State} (released : s.rst = false) (idle : s.pend = none)
include released idle

/-- A host write to a register while the block is idle, as the first turn of a run. -/
theorem run_busWrite_of_idle (r : Reg) (v : Word) (k : Nat) (rest : List Turn) :
    Host.Core.run Sys2Proof.core (k + 1) { s with turns := .busWrite (regOffset r) v :: rest } =
      Host.Core.run Sys2Proof.core k (({ s with turns := rest } : State).writeReg r v) := by
  refine run_next k ((step_of_turn rfl).trans ?_)
  rw [State.takeTurn]
  exact congrArg _ (busWrite_of_idle (s := { s with turns := rest }) released idle (regAt_regOffset r) v)

theorem run_dinWrites (writes : List (Fin 4 × Word)) (k : Nat) (rest : List Turn) :
    Host.Core.run Sys2Proof.core (writes.length + k) { s with turns := writes.map dinWrite ++ rest } =
      Host.Core.run Sys2Proof.core k { s with
        din := writes.foldl (fun din write => din.set write.1 write.2) s.din
        turns := rest } := by
  induction writes generalizing s with
  | nil => rw [List.length_nil, Nat.zero_add]; rfl
  | cons write writes ih =>
    calc Host.Core.run Sys2Proof.core ((write :: writes).length + k)
          { s with turns := (write :: writes).map dinWrite ++ rest }
      _ = Host.Core.run Sys2Proof.core (writes.length + k + 1)
          { s with turns := dinWrite write :: (writes.map dinWrite ++ rest) } := by
        rw [List.length_cons, Nat.add_right_comm, List.map_cons, List.cons_append]
      _ = Host.Core.run Sys2Proof.core (writes.length + k)
          { s.writeReg (.din write.1) write.2 with turns := writes.map dinWrite ++ rest } :=
        run_busWrite_of_idle released idle _ _ _ _
      _ = _ := ih (s := s.writeReg (.din write.1) write.2) released idle

/-- A host write to each of the DIN registers loads a block. -/
theorem run_loadDin (block : Vector Word 4) (k : Nat) (rest : List Turn) :
    Host.Core.run Sys2Proof.core (4 + k) { s with turns :=
      [.busWrite (regOffset (.din 0)) block[0], .busWrite (regOffset (.din 1)) block[1],
       .busWrite (regOffset (.din 2)) block[2], .busWrite (regOffset (.din 3)) block[3]] ++ rest } =
    Host.Core.run Sys2Proof.core k { s with din := block, turns := rest } := by
  have loaded : (((s.din.set 0 block[0]).set 1 block[1]).set 2 block[2]).set 3 block[3] = block := by
    refine Vector.ext fun i h => ?_
    match i with
    | 0 | 1 | 2 | 3 => simp
  refine (run_dinWrites released idle [(0, block[0]), (1, block[1]), (2, block[2]), (3, block[3])] k rest).trans ?_
  exact congrArg (fun din => Host.Core.run Sys2Proof.core k { s with din := din, turns := rest }) loaded

/-- Issue and completion of ENC or DEC, with no turn between them, where a schedule is stored. -/
theorem run_storedScheduleCommand (stored : s.ksValid = true) {c : Word} {i : Instr} (decoded : decode c = some i)
    {f : Vector Word 4 → Vector Word 60 → Nat → Vector Word 4}
    (meaning : ∀ s, exec i s = completion s (storedScheduleBody f 16 s)) :
    Host.Core.run Sys2Proof.core 2 { s with turns := [.busWrite (regOffset .cmd) c, .coreStep] } =
      .next (s.cipheredBy f) := by
  have completes : (({ s with turns := [] } : State).issue c).coreTurn = .next (s.cipheredBy f) := by
    have turn := coreTurn_of_command (s := ({ s with turns := [] } : State).issue c) released rfl decoded
    have body := storedScheduleBody_of_schedule f (({ s with turns := [] } : State).issue c) stored
    rw [turn, meaning, body, completion_ok]
    rfl
  exact (run_busWrite_of_idle released idle _ _ 1 _).trans (run_next 0 ((step_of_coreStep rfl).trans completes))

end

/-- Settles O59: DEC reads the schedule that ENC read, so the two ciphers undo each other. -/
theorem hostRunEncryptsAndDecryptsBack : Obligations.HostRunEncryptsAndDecryptsBack := by
  unfold Obligations.HostRunEncryptsAndDecryptsBack
  intro s released idle stored
  have encrypts := run_storedScheduleCommand released idle stored
    (by decide : decode 0x00100002#32 = some (.enc 16)) (exec_enc 16)
  have copies := run_loadDin (s := s.cipheredBy cipher) released rfl (s.cipheredBy cipher).dout 2
  have decrypts := run_storedScheduleCommand (s := { s.cipheredBy cipher with din := (s.cipheredBy cipher).dout })
    released rfl stored (by decide : decode 0x00100003#32 = some (.dec 16)) (exec_dec 16)
  exact ⟨_, _, encrypts, (copies _).trans decrypts, invCipher_cipher s.rk s.nr.toNat s.din, rfl, rfl, rfl, rfl⟩

end Sys2Proof.Machine
end

section
/-! PROOFS. The life of a command (44_control.md): its issue (R190), host accesses while it is pending (R193, R194), its completion
(R191, R192, R198), and the commands NOP and ZEROIZE (R195, R196). -/

namespace Sys2Proof.Machine

/-! ## Host accesses: issue, the dropped write and the read -/

theorem step_busWrite_of_busy {s : State} {a : Offset} {v : Word} {rest : List Turn} (released : s.rst = false)
    (busy : s.pend ≠ none) (turn : s.turns = .busWrite a v :: rest) :
    step s = .next ({ s with turns := rest } : State).dropWrite := by
  rw [step_of_turn turn, State.takeTurn, busWrite_of_busy (s := { s with turns := rest }) released busy]

/-- Settles O12: the write is dropped. -/
theorem writeWhileBusyOnlySetsOvr : Obligations.WriteWhileBusyOnlySetsOvr := by
  unfold Obligations.WriteWhileBusyOnlySetsOvr
  exact fun _ _ _ _ released busy turn => step_busWrite_of_busy released busy turn

/-- Settles O11: an idle write to CMD is the issue, a busy one is dropped. -/
theorem cmdWriteIssues : Obligations.CmdWriteIssues := by
  unfold Obligations.CmdWriteIssues
  intro s a c rest released target turn
  refine ⟨fun idle => ⟨({ s with turns := rest } : State).issue c, ?_, rfl, rfl, rfl⟩,
    fun busy => step_busWrite_of_busy released busy turn⟩
  rw [step_of_turn turn, State.takeTurn, busWrite_of_idle (s := { s with turns := rest }) released idle target,
    State.writeReg]

/-- Settles O13: the read value is the register's, which the turns to come do not decide; bits 0 and 1 of STATUS are BUSY and
DONE. -/
theorem readHasNoSideEffect : Obligations.ReadHasNoSideEffect := by
  unfold Obligations.ReadHasNoSideEffect
  intro s a rest released turn
  refine ⟨?_, fun inv busy => ?_⟩
  · rw [step_of_turn turn, State.takeTurn, State.busRead, State.readValue, if_neg (by simp [released])]
    rfl
  · obtain ⟨-, pending, -⟩ := inv
    obtain ⟨done, -⟩ := pending busy
    obtain ⟨busyBit, doneBit, -⟩ := statusWordFields s
    exact ⟨busyBit.trans (Option.isSome_iff_ne_none.mpr busy), doneBit.trans done⟩

/-! ## Completion -/

/-- Settles O15: the core's turn on a decoded word, with and without a turn of the list. -/
theorem stepCompletesTheDecodedCommand : Obligations.StepCompletesTheDecodedCommand := by
  unfold Obligations.StepCompletesTheDecodedCommand
  intro s c i released pending decoded
  exact ⟨fun noTurn => (step_of_no_turn noTurn).trans (coreTurn_of_command released pending decoded),
    fun rest turn => (step_of_coreStep turn).trans
      (coreTurn_of_command (s := { s with turns := rest }) released pending decoded)⟩

/-- Only a failed check ends a command with an error, and the body then leaves nothing (R192). -/
theorem CommandEffect.eq_complete_of_err {s t : State} {i : Instr} (e : CommandEffect s i t) (failed : t.err ≠ .success) :
    t = s.complete t.err := by
  cases e with
  | failed => rfl
  | _ => exact absurd rfl failed

/-- What the core's turn leaves where a word is pending, of a command or ILLEGAL (R191, R192, R197). -/
theorem coreTurn_of_pending {s t : State} (h : s.coreTurn = .next t) (released : s.rst = false) (pending : s.pend ≠ none) :
    t.pend = none ∧ t.done = true ∧ t.turns = s.turns ∧ (t.err ≠ .success → t = s.complete t.err) := by
  obtain ⟨asserted | idle, -⟩ | ⟨c, i, -, -, -, h⟩ | ⟨c, -, -, -, rfl⟩ := coreTurn_cases h
  · exact absurd (asserted.symm.trans released) (by decide)
  · exact absurd idle pending
  · have e := commandEffect_of_exec h
    exact ⟨e.pend, e.done, e.turns, e.eq_complete_of_err⟩
  · exact ⟨rfl, rfl, rfl, fun _ => rfl⟩

/-- Where the core moves, the step is its turn. -/
theorem step_of_coreMoves {s : State} (moves : s.coreMoves) :
    ∃ rest, step s = ({ s with turns := rest } : State).coreTurn := by
  obtain noTurn | ⟨rest, turn⟩ := moves
  · exact ⟨s.turns, step_of_no_turn noTurn⟩
  · exact ⟨rest, step_of_coreStep turn⟩

/-- Settles O16: the step is the core's turn, on a pending word. -/
theorem everyCompletionEndsIdleAndDone : Obligations.EveryCompletionEndsIdleAndDone := by
  unfold Obligations.EveryCompletionEndsIdleAndDone
  rintro s ⟨released, moves, pending⟩
  obtain ⟨rest, stepEq⟩ := step_of_coreMoves moves
  obtain ⟨t, turn⟩ := coreTurn_next { s with turns := rest }
  obtain ⟨idle, done, -⟩ := coreTurn_of_pending turn released pending
  exact ⟨t, stepEq.trans turn, idle, congrArg Option.isSome idle, done, done⟩

/-- Settles O17: a completion with an error is the report of that error on the old state. -/
theorem failedCommandWritesOnlyStatus : Obligations.FailedCommandWritesOnlyStatus := by
  unfold Obligations.FailedCommandWritesOnlyStatus
  intro s t released pending turn failed
  obtain ⟨-, -, -, reported⟩ := coreTurn_of_pending turn released pending
  exact reported failed

/-- Settles O57: the host's accesses leave the word pending, and with no turn left the core completes it. -/
theorem pendingCommandCompletes : Obligations.PendingCommandCompletes := by
  unfold Obligations.PendingCommandCompletes
  intro s released pending access
  obtain ⟨ovr, data, run⟩ := run_accesses_of_busy 1 [] access released pending
  rw [List.append_nil] at run
  obtain ⟨t, turn⟩ := coreTurn_next (({ s with turns := [] } : State).withPort ovr data)
  obtain ⟨idle, done, turns, -⟩ := coreTurn_of_pending turn released pending
  exact ⟨t, run.trans (run_next 0 ((step_of_no_turn rfl).trans turn)), idle, done, turns⟩

/-! ## NOP and ZEROIZE -/

/-- Settles O18: word 0 is the one legal word of its OP, and NOP's body is empty. -/
theorem nopWritesOnlyStatus : Obligations.NopWritesOnlyStatus := by
  unfold Obligations.NopWritesOnlyStatus
  exact ⟨by decide, fun c op other => decode_eq_none_of_no_operand (by decide) op other, exec_nop⟩

/-- ENC and DEC fail where no schedule is stored (R170, R172). -/
theorem completion_of_noSchedule (f : Vector Word 4 → Vector Word 60 → Nat → Vector Word 4) {s : State}
    (empty : s.ksValid = false) : completion s (storedScheduleBody f 16 s) = .next (s.complete .noSchedule) := by
  rw [storedScheduleBody_of_noSchedule f s empty, completion_error]

theorem zeroized_specState (s : State) :
    (s.zeroized.complete .success).specState = { State.reset with done := true } := rfl

/-- STATUS shows nothing but what the spec gives the block. -/
theorem specState_statusWord (s : State) : s.specState.statusWord = s.statusWord := rfl

theorem zeroized_statusWord (s : State) : (s.zeroized.complete .success).statusWord = 0x00000002#32 := by
  rw [← specState_statusWord, zeroized_specState]
  decide

/-- Settles O29: ZEROIZE writes every field that reset writes, with DONE by its completion. -/
theorem zeroizeLeavesResetStateButDone : Obligations.ZeroizeLeavesResetStateButDone := by
  unfold Obligations.ZeroizeLeavesResetStateButDone
  refine ⟨by decide, fun s => ⟨s.zeroized.complete .success, exec_zeroize s, zeroized_specState s, rfl, rfl,
    zeroized_statusWord s, rfl, ?_, ?_⟩, fun s released busy => busWrite_of_busy released busy _ _⟩
  · exact ⟨_, (exec_enc 16 _).trans (completion_of_noSchedule cipher rfl), rfl⟩
  · exact ⟨_, (exec_dec 16 _).trans (completion_of_noSchedule invCipher rfl), rfl⟩

end Sys2Proof.Machine
end

section
/-! PROOFS. Errors and the interrupt (60_exceptions.md): the order of the checks (R212), and irq after each event that writes
DONE (R216). -/

namespace Sys2Proof.Machine

/-! ## The order of the checks -/

/-- A command whose body raises a code reports that code (R192, R214). -/
theorem exec_reports_of_error {i : Instr} {s : State} {body : Except ErrCode State} {code : ErrCode}
    (meaning : exec i s = completion s body) (raised : body = .error code) :
    ∃ t, exec i s = .next t ∧ t.err = code :=
  ⟨s.complete code, by rw [meaning, raised, completion_error], rfl⟩

/-- ENC and DEC check the block length before the schedule (R170, R172). -/
theorem exec_enc_dec_of_badLength {blen : Nat} (bad : blen ≠ 16) (s : State) :
    (∃ t, exec (.enc blen) s = .next t ∧ t.err = .invalidBlockLength) ∧
      (∃ t, exec (.dec blen) s = .next t ∧ t.err = .invalidBlockLength) :=
  ⟨exec_reports_of_error (exec_enc blen s) (storedScheduleBody_of_badLength cipher s bad),
    exec_reports_of_error (exec_dec blen s) (storedScheduleBody_of_badLength invCipher s bad)⟩

/-- EXPKEY, ENCK and DECK check the key length first (R140, R171, R173). -/
theorem exec_expand_of_invalid {klen : Nat} (invalid : variant klen = none) (blen : Nat) (s : State) :
    (∃ t, exec (.expkey klen) s = .next t ∧ t.err = .invalidKeyLength) ∧
      (∃ t, exec (.enck klen blen) s = .next t ∧ t.err = .invalidKeyLength) ∧
      (∃ t, exec (.deck klen blen) s = .next t ∧ t.err = .invalidKeyLength) :=
  ⟨exec_reports_of_error (exec_expkey klen s) (expkeyBody_of_invalid invalid s),
    exec_reports_of_error (exec_enck klen blen s) (facadeBody_of_invalid cipher s invalid),
    exec_reports_of_error (exec_deck klen blen s) (facadeBody_of_invalid invCipher s invalid)⟩

/-- Settles O30: each check's failure makes the body raise its code, whatever the later checks would say. -/
theorem errorChecksInOrder : Obligations.ErrorChecksInOrder := by
  unfold Obligations.ErrorChecksInOrder
  refine ⟨fun s c released pending illegal => ?_, fun klen blen s invalid => exec_expand_of_invalid invalid blen s,
    fun klen blen v s selected bad => ⟨?_, ?_⟩, fun blen s bad => exec_enc_dec_of_badLength bad s,
    fun s empty => ⟨?_, ?_⟩, fun s => ⟨?_, ?_⟩⟩
  · exact ⟨_, coreTurn_of_illegal released pending illegal, rfl⟩
  · exact exec_reports_of_error (exec_enck klen blen s) (facadeBody_of_badLength cipher s selected bad)
  · exact exec_reports_of_error (exec_deck klen blen s) (facadeBody_of_badLength invCipher s selected bad)
  · exact exec_reports_of_error (exec_enc 16 s) (storedScheduleBody_of_noSchedule cipher s empty)
  · exact exec_reports_of_error (exec_dec 16 s) (storedScheduleBody_of_noSchedule invCipher s empty)
  · obtain ⟨-, enck, -⟩ := exec_expand_of_invalid (by decide : variant 20 = none) 8 s
    exact enck
  · obtain ⟨enc, -⟩ := exec_enc_dec_of_badLength (by decide : 8 ≠ 16) s
    exact enc

/-! ## The interrupt -/

theorem step_of_writesNext {s : State} {r : Reg} {v : Word} (write : s.writesNext r v) :
    ∃ rest, step s = .next (({ s with turns := rest } : State).writeReg r v) := by
  obtain ⟨released, idle, a, rest, turn, target⟩ := write
  refine ⟨rest, ?_⟩
  rw [step_of_turn turn, State.takeTurn, busWrite_of_idle (s := { s with turns := rest }) released idle target]

theorem drivePin_of_resetEvent {s : State} {level : Bool} (event : s.isResetEvent level = true) :
    s.drivePin level = s.pinReset level := if_pos event

theorem step_of_pinNext {s : State} (pin : s.pinNext) :
    ∃ level rest, step s = .next (({ s with turns := rest } : State).pinReset level) := by
  obtain ⟨level, rest, turn, event⟩ := pin
  refine ⟨level, rest, ?_⟩
  rw [step_of_turn turn, State.takeTurn, drivePin_of_resetEvent (s := { s with turns := rest }) event]

/-- Settles O54: irq is DONE, so each clause is what the event's own write leaves in DONE. -/
theorem irqFollowsDone : Obligations.IrqFollowsDone := by
  unfold Obligations.IrqFollowsDone
  refine fun s => ⟨rfl, fun next => ?_, ?_, ?_, fun pin => ?_⟩
  · obtain ⟨t, stepEq, -, -, -, irq⟩ := everyCompletionEndsIdleAndDone s next
    exact ⟨t, stepEq, irq⟩
  · rintro ⟨c, write⟩
    obtain ⟨rest, stepEq⟩ := step_of_writesNext write
    exact ⟨({ s with turns := rest } : State).issue c, stepEq, rfl⟩
  · rintro ⟨v, write, bit⟩
    obtain ⟨rest, stepEq⟩ := step_of_writesNext write
    exact ⟨({ s with turns := rest } : State).clearFlags v, stepEq, if_pos bit⟩
  · obtain ⟨level, rest, stepEq⟩ := step_of_pinNext pin
    exact ⟨_, stepEq, State.pinReset_done _ level⟩

end Sys2Proof.Machine
end

section
/-! PROOFS. The reset pin (70_reset_and_hazards.md): the reset it gives when driven, and the block while it is asserted (R240). -/

namespace Sys2Proof.Machine

theorem step_of_rst {s : State} {level : Bool} {rest : List Turn} (turn : s.turns = .rst level :: rest) :
    step s = .next (({ s with turns := rest } : State).drivePin level) := step_of_turn turn

/-- The pin's reset gives the spec's reset state; only the pin's level and the model's own fields differ from it (R240). -/
theorem pinReset_specState (s : State) (level : Bool) : (s.pinReset level).specState = State.reset := rfl

theorem isResetEvent_iff {s : State} {level : Bool} : s.isResetEvent level = true ↔ level = true ∨ s.rst = true :=
  Bool.or_eq_true_iff

theorem drivePin_of_low {s : State} (released : s.rst = false) : s.drivePin false = s :=
  if_neg (by simp [isResetEvent_iff, released])

section Asserted
variable {s : State} (asserted : s.rst = true)
include asserted

theorem busWrite_of_asserted (a : Offset) (v : Word) : s.busWrite a v = s := if_pos asserted

theorem readValue_of_asserted (a : Offset) : s.readValue a = 0 := if_pos asserted

theorem coreTurn_of_asserted : s.coreTurn = .next s := if_pos asserted

end Asserted

/-- Settles O46: a reset event's step is the pin's reset, a low pin driven low is no event, and an asserted pin stops both the bus
and the core. -/
theorem resetPinGivesResetState : Obligations.ResetPinGivesResetState := by
  unfold Obligations.ResetPinGivesResetState
  refine ⟨fun s level rest turn event => ?_, fun s rest turn released => ?_, fun s asserted =>
    ⟨busWrite_of_asserted asserted, readValue_of_asserted asserted, coreTurn_of_asserted asserted⟩⟩
  · have resets : ({ s with turns := rest } : State).isResetEvent level = true := isResetEvent_iff.mpr event
    refine ⟨_, ?_, pinReset_specState { s with turns := rest } level, rfl, rfl⟩
    rw [step_of_rst turn, drivePin_of_resetEvent resets]
  · rw [step_of_rst turn, drivePin_of_low (s := { s with turns := rest }) released]

end Sys2Proof.Machine
end
